-- ==== Sys2Proof/Word.lean ====
section
/-! DEFINITION. The plain words of the part: bytes, and the numbers of channels, pairs and inputs. -/

namespace Sys2Proof

/-- One byte of a telegram (spec 11, R179). -/
abbrev Byte := BitVec 8

/-- A channel number, 0 to 9 (spec 00, 5.2). -/
abbrev ChannelId := Fin 10

/-- A pair number, 0 to 4 (spec 00, 5.2): pair p is master 2p and follower 2p+1. -/
abbrev PairId := Fin 5

/-- A machine input number, 0 to 7 (spec 10). -/
abbrev InputId := Fin 8

end Sys2Proof
end

