-- ==== Sys2Proof/Syntax.lean ====
section
/-! DEFINITION. The commands of the part, one constructor for each row of spec/opcode_table.json. The rows give no
bits; the operands are those that the row's rule names. -/

namespace Sys2Proof

/-- The raw result of one channel's conversion: two 12-bit values (R9). -/
structure RawSample where
  channel : ChannelId
  rawA : BitVec 12
  rawB : BitVec 12
  deriving DecidableEq, Repr

/-- A command: an event on a line or of a clock, a telegram, or the dispatcher's execution of one request. The
payload of a request is the byte list of spec 12.6.3. -/
inductive Instr where
  /-- Supply and clock come up (R196). -/
  | powerOn
  /-- The reset line is asserted (R196). -/
  | resetLineAssert
  /-- The reset line is released (R196). -/
  | resetLineRelease
  /-- The last byte of the DEVICE_RESET reply leaves the line (R196). -/
  | deviceResetTakesEffect
  /-- The counter of channel `c` reaches 0 (R3); for a coupled pair, of both its channels (log 5). -/
  | valley (c : ChannelId)
  /-- The counter of channel `c` reaches N (R4); for a coupled pair, of both its channels (log 5). -/
  | peak (c : ChannelId)
  /-- The conversions of these channels end at one moment (R9, R44). -/
  | conversionCompletion (samples : List RawSample)
  /-- The computation in progress ends (R46). -/
  | engineCompletion
  /-- The encoder inputs of channel `c` are sampled as track A and track B (R13). -/
  | encoderStep (c : ChannelId) (a b : Bool)
  /-- Both encoder tracks of channel `c` change at once (R14). -/
  | illegalTransition (c : ChannelId)
  /-- `agreeing` consecutive samples of the gate-driver fault line of channel `c` show one level (R12). -/
  | gateDriverLineChange (c : ChannelId) (asserted : Bool) (agreeing : Nat)
  /-- The charge timer of channel `c` expires (R60). -/
  | chargeTimerExpiry (c : ChannelId)
  /-- The park timer of channel `c` expires (R61). -/
  | parkTimerExpiry (c : ChannelId)
  /-- The brake timer of channel `c` expires (R67). -/
  | brakeTimerExpiry (c : ChannelId)
  /-- The holdoff timer of channel `c` expires (R74). -/
  | holdoffTimerExpiry (c : ChannelId)
  /-- A conversion of the DC-link voltage ends with this 12-bit value (R153). -/
  | dcLinkSample (raw : BitVec 12)
  /-- `agreeing` consecutive samples of the mains-fail line show one level (R162). -/
  | mainsFailChange (asserted : Bool) (agreeing : Nat)
  /-- The ride timer expires (R166). -/
  | rideTimerExpiry
  /-- The filter of input `i` settles on a level, HIGH when `high` (R171). -/
  | inputFilteredChange (i : InputId) (high : Bool)
  /-- A good SETPOINT telegram completes (R82, R183). -/
  | setpoint (tag : Byte) (payload : List Byte)
  /-- A good telegram of this kind completes (R183, R184). -/
  | requestTelegram (kind tag : Byte) (payload : List Byte)
  /-- A telegram whose CRC does not match ends (R181, R182). -/
  | crcError
  /-- A telegram begins with this length byte (R182). -/
  | lengthError (length : Byte)
  /-- The gap timer expires (R182). -/
  | gapError
  /-- A byte arrives with a bad stop bit (R182). -/
  | framingError
  /-- The link watchdog expires (R185). -/
  | linkWatchdogExpiry
  /-- The last byte of the telegram on the outbound line leaves (R186). -/
  | transmitEnd
  /-- The dispatcher executes a request of unknown kind (R189). -/
  | badKind (kind tag : Byte) (payload : List Byte)
  /-- The dispatcher executes IDENTIFY (R195); so for each constructor below. -/
  | identify (tag : Byte) (payload : List Byte)
  | loadProfile (tag : Byte) (payload : List Byte)
  | readProfile (tag : Byte) (payload : List Byte)
  | configureBus (tag : Byte) (payload : List Byte)
  | configureInputs (tag : Byte) (payload : List Byte)
  | configureReports (tag : Byte) (payload : List Byte)
  | configureLink (tag : Byte) (payload : List Byte)
  | enable (tag : Byte) (payload : List Byte)
  | disable (tag : Byte) (payload : List Byte)
  | calibrate (tag : Byte) (payload : List Byte)
  | cancelOperation (tag : Byte) (payload : List Byte)
  | couple (tag : Byte) (payload : List Byte)
  | uncouple (tag : Byte) (payload : List Byte)
  | clearFaults (tag : Byte) (payload : List Byte)
  | setMask (tag : Byte) (payload : List Byte)
  | flushSetpoints (tag : Byte) (payload : List Byte)
  | queryChannel (tag : Byte) (payload : List Byte)
  | queryFaults (tag : Byte) (payload : List Byte)
  | queryBus (tag : Byte) (payload : List Byte)
  | queryInputs (tag : Byte) (payload : List Byte)
  | queryLink (tag : Byte) (payload : List Byte)
  | channelReset (tag : Byte) (payload : List Byte)
  | deviceReset (tag : Byte) (payload : List Byte)
  /-- A byte arrives at the link receiver (R181). -/
  | byteArrival (byte : Byte)
  /-- The eight input lines are sampled; bit i is set where line i is HIGH (R171). -/
  | inputSampleEvent (levels : BitVec 8)
  /-- One tick of the prescaled clock of channel `c` (R1, R7); for a coupled pair, of both its channels (log 5). -/
  | prescaledClockTick (c : ChannelId)
  deriving DecidableEq, Repr

end Sys2Proof
end

