-- ==== Sys2Proof/Config.lean ====
section
/-! DEFINITION. What the part fixes once: its identity codes, its clock, and the values the spec leaves open. -/

namespace Sys2Proof.Config

/-- The vendor code (spec 12.6.8). -/
def vendorCode : Nat := 0x4756

/-- The part code (R195). -/
def partCode : Nat := 0x4C10

/-- The revision (spec 12.6.8). -/
def revision : Nat := 1

/-- Cycles of the 80 MHz reference clock in one microsecond (spec 00, section 4; R43). -/
def cyclesPerUs : Nat := 80

/-- Cycles of the reference clock in one millisecond. -/
def cyclesPerMs : Nat := 80000

/-- Cycles of the reference clock that one byte takes on the link: ten bit times of 25 ns (R179). -/
def cyclesPerByte : Nat := 20

/-- Cycles from the beginning of a byte's start bit to its arrival in the middle of its stop bit: nine and a half bit
times (R179, R182). -/
def cyclesToArrival : Nat := 19

/-- The duration of one computation, 2.2 µs (R45). -/
def computationCycles : Nat := 176

/-- A byte the spec gives a place but no value: the tag of an event or of a telemetry telegram, the assignment reported
for a GENERAL input, and the active condition reported where no source is active. It has no body, so nothing can be
proved of it; `State.free` picks the next one. DESIGN CHOICE (log 8, 9, 35, 42); safe. -/
opaque freeByte : Nat → BitVec 8

end Sys2Proof.Config
end

