-- ==== Sys2Proof/Machine/Arith.lean ====
section
/-! DEFINITION. The integer functions of spec 00, section 5.6 and 5.7, and the CRC of R180. -/

namespace Sys2Proof.Machine

/-- "Clamp to a range" (spec 00, 5.1). -/
def clampTo (lo hi x : Int) : Int := if x < lo then lo else if hi < x then hi else x

/-- Clamp to ±bound. -/
def clampSym (bound x : Int) : Int := clampTo (-bound) bound x

/-- Clamp of an unsigned field. -/
def clampNat (lo hi x : Nat) : Nat := if x < lo then lo else if hi < x then hi else x

/-- Half-up division by 2^k (spec 00, 5.6): add 2^(k-1), then divide rounding down. -/
def halfUp (k : Nat) (x : Int) : Int := (x + (2 : Int) ^ (k - 1)) / (2 : Int) ^ k

/-- The digits of the square root below bit `k`, on top of the digits `r` already found. -/
def isqrtFrom : Nat → Nat → Nat → Nat
  | 0, r, _ => r
  | k + 1, r, x =>
    if (r + 2 ^ k) * (r + 2 ^ k) ≤ x then isqrtFrom k (r + 2 ^ k) x else isqrtFrom k r x

/-- Integer square root: the floor of the exact root (spec 00, 5.6). -/
def isqrt (x : Nat) : Nat := isqrtFrom (x.log2 / 2 + 1) 0 x

/-- A counter that saturates at 65535 (spec 00, 5.7). -/
def satInc (n : Nat) : Nat := min 65535 (n + 1)

/-- One step of a ramp value toward 0 (R66). -/
def stepToward (slope : Nat) (v : Int) : Int :=
  if v.natAbs ≤ slope then 0 else if 0 < v then v - slope else v + slope

/-- One byte enters the CRC register, most significant bit first (R180). -/
def crcByte (crc : BitVec 16) (b : BitVec 8) : BitVec 16 :=
  [7, 6, 5, 4, 3, 2, 1, 0].foldl
    (fun r i => if r.msb != b.getLsbD i then (r <<< 1) ^^^ 0x1021#16 else r <<< 1) crc

/-- The CRC of a run of bytes (R180). -/
def crcOf (bytes : List (BitVec 8)) : BitVec 16 := bytes.foldl crcByte 0xFFFF#16

/-- A value as two bytes, low byte first (spec 00, 5.8). -/
def le16 (n : Nat) : List (BitVec 8) := [BitVec.ofNat 8 n, BitVec.ofNat 8 (n / 256)]

/-- A value as four bytes, low byte first. -/
def le32 (n : Nat) : List (BitVec 8) := le16 n ++ le16 (n / 65536)

/-- A signed value as two bytes, two's complement. -/
def le16s (x : Int) : List (BitVec 8) := le16 (BitVec.ofInt 16 x).toNat

/-- A signed value as four bytes, two's complement. -/
def le32s (x : Int) : List (BitVec 8) := le32 (BitVec.ofInt 32 x).toNat

/-- Two bytes as a value. -/
def of16 (b0 b1 : BitVec 8) : Nat := b0.toNat + 256 * b1.toNat

/-- Four bytes as a value. -/
def of32 (b0 b1 b2 b3 : BitVec 8) : Nat := of16 b0 b1 + 65536 * of16 b2 b3

/-- Two bytes as a signed value. -/
def of16s (b0 b1 : BitVec 8) : Int := (BitVec.ofNat 16 (of16 b0 b1)).toInt

/-- Four bytes as a 32-bit word. -/
def word32 (b0 b1 b2 b3 : BitVec 8) : BitVec 32 := BitVec.ofNat 32 (of32 b0 b1 b2 b3)

/-- A yes/no byte (spec 12.6). -/
def yesNo (b : Bool) : BitVec 8 := if b then 1 else 0

/-- Flags as a number, bit 0 first. -/
def bitsToNat : List Bool → Nat
  | [] => 0
  | b :: rest => (if b then 1 else 0) + 2 * bitsToNat rest

end Sys2Proof.Machine
end

