-- ==== Sys2Proof/Machine/State.lean ====
section
/-! DEFINITION. The state of the part: plain data, every register, queue, counter, mode and output the spec gives
its blocks, and their reset values. -/

namespace Sys2Proof.Machine

/-! ## Names -/

/-- Why the last device reset happened (R196). -/
inductive ResetCause where
  | powerOn | resetLine | resetRequest
  deriving DecidableEq, Repr

/-- The kind of a channel (R53). -/
inductive ChannelKind where
  | axis | spindle
  deriving DecidableEq, Repr

/-- Stop kind and stop cause of STOPPING (R56): a short brake always has cause FAULT. -/
inductive Stop where
  | rampHost | rampFault | brake
  deriving DecidableEq, Repr

/-- The state of a channel (R56). -/
inductive ChState where
  | unconfigured | disabled | calibrating | charging | running | parked
  | stopping (stop : Stop)
  | faulted
  deriving DecidableEq, Repr

/-- How a timebase drives its six outputs (R6). -/
inductive GateMode where
  | off | lowOn | modulate
  deriving DecidableEq, Repr

/-- Where the load point falls (R4). -/
inductive UpdateMode where
  | half | full
  deriving DecidableEq, Repr

/-- How an entry leaves the fault record (R140, R141). -/
inductive EndMode where
  | auto | held
  deriving DecidableEq, Repr

/-- What a channel does when a source becomes active (R68). -/
inductive Reaction where
  | gatesOff | shortBrake | rampStop
  deriving DecidableEq, Repr

/-- The twelve sources that a block raises on its own account (R130). -/
inductive Source where
  | overcurrent | driver | sto | dcOver | encoder | late | dcUnder | skew | powerLoss | i2t | linkLoss | starved
  deriving DecidableEq, Repr

/-- An entry of a fault record (R131): a source of the channel's own, or PARTNER with its cause and the reaction and
end mode fixed at its raise (R126, R130). -/
inductive Entry where
  | own (source : Source)
  | partner (cause : Source) (reaction : Reaction) (endMode : EndMode)
  deriving DecidableEq, Repr

/-- The operations of the operation record (R70). -/
inductive Operation where
  | calibrate | charge | hostStop | faultStop | brake
  deriving DecidableEq, Repr

/-- How an operation ended (R70). -/
inductive OpOutcome where
  | completed | suspended | aborted
  deriving DecidableEq, Repr

/-- Why the last short brake ended (R67). -/
inductive BrakeEnd where
  | none | speed | time
  deriving DecidableEq, Repr

/-- The condition of a calibration record (R71). -/
inductive CalCondition where
  | empty | running | suspended
  deriving DecidableEq, Repr

/-- The ride-through state (R163 to R166). -/
inductive RideState where
  | normal | rideThrough | expired
  deriving DecidableEq, Repr

/-- The function of a machine input with its assignment (R173). -/
inductive InputFunction where
  | general
  | limitPos (c : ChannelId)
  | limitNeg (c : ChannelId)
  | sto (channels : BitVec 10)
  deriving DecidableEq, Repr

/-- The notice edge of a machine input (R176). -/
inductive NoticeEdge where
  | none | assert | release | both
  deriving DecidableEq, Repr

/-- The classes of outbound telegrams (R186). -/
inductive TelegramClass where
  | reply | event | telemetry
  deriving DecidableEq, Repr

/-! ## Profile blocks -/

/-- The TIMEBASE block (R8). -/
structure TimebaseValues where
  prescale : Nat
  n : Nat
  mode : UpdateMode
  dt : Nat
  cmin : Nat
  tdc : Nat
  db : Nat
  deriving DecidableEq, Repr

/-- The SENSING block (R10, R11). -/
structure SensingValues where
  offA : Nat
  offB : Nat
  itrip : Nat
  deriving DecidableEq, Repr

/-- The LOOP block (R40). -/
structure LoopValues where
  kpD : Nat
  kiD : Nat
  kpQ : Nat
  kiQ : Nat
  mlim : Nat
  deriving DecidableEq, Repr

/-- The ENCODER block (R13, R16). -/
structure EncoderValues where
  cpr : Nat
  pp : Nat
  thetaOff : Nat
  pos0 : BitVec 32
  inverted : Bool
  deriving DecidableEq, Repr

/-- The LIMITS block (R54). -/
structure LimitsValues where
  ilim : Nat
  idLim : Nat
  icont : Nat
  rampSlope : Nat
  holdLimit : Nat
  lateLimit : Nat
  brakeSpeed : Nat
  brakeTime : Nat
  deriving DecidableEq, Repr

/-- The THERMAL block (R109). -/
structure ThermalValues where
  awarn : Nat
  aclear : Nat
  atrip : Nat
  deriving DecidableEq, Repr

/-- One window record (R101). `cap` holds the cap field as taken; it counts only where `capPresent` is set (12.6.5). -/
structure Window where
  enabled : Bool
  blockPos : Bool
  blockNeg : Bool
  capPresent : Bool
  base : BitVec 32
  limit : BitVec 32
  cap : Nat
  deriving DecidableEq, Repr

/-- The FAULTS block (R132), the mask threshold and end modes of the fault record among it (R131). -/
structure FaultsValues where
  mask : Nat
  dcOverEnd : EndMode
  dcUnderEnd : EndMode
  i2tEnd : EndMode
  starvedEnd : EndMode
  encoderBrakes : Bool
  deriving DecidableEq, Repr

/-- The IDLE block (R55). -/
structure IdleValues where
  parkAllowed : Bool
  parkExponent : Nat
  tBoot : Nat
  holdoff : Nat
  tStale : Nat
  deriving DecidableEq, Repr

/-- Blocks taken but waiting for the channel's next valley (R190). A SENSING block never waits. -/
structure Waiting where
  timebase : Option TimebaseValues
  loop : Option LoopValues
  encoder : Option EncoderValues
  limits : Option LimitsValues
  thermal : Option ThermalValues
  windows : Option (List Window)
  faults : Option FaultsValues
  idle : Option IdleValues
  deriving DecidableEq, Repr

/-! ## The parts of a channel -/

/-- One switch of a power stage: its output, and for how many ticks it has been off, up to the largest DT (R7). -/
structure Switch where
  on : Bool
  offTicks : Nat
  deriving DecidableEq, Repr

/-- The high-side and low-side switch of one phase (R6). -/
structure Phase where
  high : Switch
  low : Switch
  deriving DecidableEq, Repr

/-- Three compare values (R5). -/
structure Compare where
  a : Nat
  b : Nat
  c : Nat
  deriving DecidableEq, Repr

/-- The channel timebase (R1 to R7). -/
structure Timebase where
  counter : Nat
  up : Bool
  period : BitVec 16
  compare : Compare
  staged : Option Compare
  gateMode : GateMode
  phaseA : Phase
  phaseB : Phase
  phaseC : Phase
  /-- The moment of the last valley, or of the start (model's clock, log 2). -/
  periodStart : Nat
  deriving DecidableEq, Repr

/-- The sample unit (R9 to R12). -/
structure Sample where
  converting : Bool
  ia : Int
  ib : Int
  ic : Int
  trip : Bool
  driverAsserted : Bool
  deriving DecidableEq, Repr

/-- The position interface (R13 to R16) and the Udc latched with it (R154). -/
structure Position where
  count : BitVec 32
  tracks : Option (Bool × Bool)
  latched : BitVec 32
  previous : BitVec 32
  /-- The next valley sets the previous latch equal to the new one (R15, R117). -/
  relatch : Bool
  omega : Int
  theta : Nat
  illegal : Nat
  udc : Nat
  deriving DecidableEq, Repr

/-- A setpoint record (R79). -/
structure Setpoint where
  applyAt : BitVec 16
  iq : Int
  id : Int
  vff : Option Int
  deriving DecidableEq, Repr

/-- A setpoint queue (R80, R81, R93). -/
structure SetpointQueue where
  records : List Setpoint
  baseId : Int
  baseIq : Int
  /-- The feed-forward handed for the period (R86). -/
  periodVff : Int
  starvation : Nat
  starved : Bool
  taken : Nat
  late : Nat
  revised : Nat
  refusedFull : Nat
  refusedCoupled : Nat
  dropped : Nat
  deriving DecidableEq, Repr

/-- The block flags of the last valley (R107). -/
structure BlockFlags where
  override : Bool
  corrected : Bool
  posBlocked : Bool
  negBlocked : Bool
  capped : Bool
  circleLimited : Bool
  deriving DecidableEq, Repr

/-- The reference path and the thermal model (Chapter 6). -/
structure RefPath where
  baseId : Int
  baseIq : Int
  appliedId : Int
  appliedIq : Int
  vff : Int
  flags : BlockFlags
  cap : Option Nat
  containing : List Bool
  accumulator : Nat
  derate : Bool
  tripped : Bool
  deriving DecidableEq, Repr

/-- What the last staged result left in the channel (R38, R39). -/
structure LoopState where
  intD : Int
  intQ : Int
  vd : Int
  vq : Int
  clampD : Bool
  clampQ : Bool
  lastStaged : Compare
  deriving DecidableEq, Repr

/-- An engine request (R19, R42). -/
structure EngineRequest where
  channel : ChannelId
  period : BitVec 16
  /-- The moment of the load point (R42, R43), on the model's clock. -/
  deadline : Nat
  ia : Int
  ib : Int
  ic : Int
  theta : Nat
  position : BitVec 32
  udc : Nat
  idRef : Int
  iqRef : Int
  vff : Int
  loop : LoopValues
  n : Nat
  cmin : Nat
  tdc : Nat
  db : Nat
  deriving DecidableEq, Repr

/-- A slot of the engine queue (R41). -/
inductive Slot where
  | empty
  | waiting (request : EngineRequest)
  | expired (request : EngineRequest)
  deriving DecidableEq, Repr

/-- A channel's side of the loop engine (R41, R42, R51). -/
structure EngineSide where
  slot : Slot
  mark : Option (BitVec 16)
  consecutiveLate : Nat
  latePeriods : Nat
  replaced : Nat
  discarded : Nat
  deriving DecidableEq, Repr

/-- The operation record (R70). Busy is `inProgress.isSome`. -/
structure OpRecord where
  inProgress : Option Operation
  done : Bool
  last : Option (Operation × OpOutcome)
  deriving DecidableEq, Repr

/-- The controller's timers: the moment of expiry while running (R59, R61, R67, R74). -/
structure Timers where
  charge : Option Nat
  park : Option Nat
  brake : Option Nat
  holdoff : Option Nat
  deriving DecidableEq, Repr

/-- Ramp values, slow count and brake end reason (R66, R67). -/
structure StopValues where
  rd : Int
  rq : Int
  slowCount : Nat
  brakeEnd : BrakeEnd
  deriving DecidableEq, Repr

/-- The calibration record (R71). -/
structure Calibration where
  condition : CalCondition
  sumA : Nat
  sumB : Nat
  count : Nat
  suspendedAt : Nat
  deriving DecidableEq, Repr

/-- The first-fault record (R143). -/
structure FirstFault where
  entry : Entry
  period : BitVec 16
  ia : Int
  ib : Int
  udc : Nat
  omega : Int
  appliedIq : Int
  deriving DecidableEq, Repr

/-- The fault record (R131); mask threshold, end modes and ENCODER reaction stand in the channel's FAULTS values.
Bit k-1 of `seen` stands for source code k. -/
structure FaultRecord where
  active : Option Entry
  pending : List Entry
  seen : BitVec 13
  first : Option FirstFault
  deriving DecidableEq, Repr

/-- The context of one channel (spec 04, 4.1) with the state its blocks own. -/
structure Channel where
  kind : ChannelKind
  state : ChState
  timebase : TimebaseValues
  sensing : SensingValues
  loop : LoopValues
  encoder : EncoderValues
  limits : LimitsValues
  thermal : ThermalValues
  windows : List Window
  faults : FaultsValues
  idle : IdleValues
  waiting : Waiting
  tb : Timebase
  sample : Sample
  pos : Position
  queue : SetpointQueue
  ref : RefPath
  loopState : LoopState
  eng : EngineSide
  op : OpRecord
  timers : Timers
  stop : StopValues
  cal : Calibration
  record : FaultRecord
  /-- The telemetry divisor, 0 for OFF (R192). -/
  divisor : Nat
  /-- The telemetry countdown, or stopped (R192). -/
  countdown : Option Nat
  deriving DecidableEq, Repr

/-! ## The blocks that serve all channels -/

/-- A pair coupler (R115). -/
structure Pair where
  coupled : Bool
  kskew : Nat
  corrMax : Nat
  skewLimit : Nat
  skewOffset : BitVec 32
  delta : Int
  corr : Int
  skewHolds : Bool
  skewRaised : Bool
  deriving DecidableEq, Repr

/-- The loop engine's computation in progress (R45, R46): the granted request, the integrators read at the grant,
and what has happened to its channel since. -/
structure Computation where
  request : EngineRequest
  intD : Int
  intQ : Int
  grantedAt : Nat
  /-- The channel's load point has passed since the grant. -/
  missed : Bool
  /-- The channel has left computing since the grant. -/
  left : Bool
  /-- The channel has been reset by CHANNEL_RESET since the grant. -/
  wasReset : Bool
  deriving DecidableEq, Repr

/-- The bus profile (R155). -/
structure BusProfile where
  udcNom : Nat
  uvIndex : Nat
  tUv : Nat
  uOv : Nat
  uOn : Nat
  uOff : Nat
  tRide : Nat
  support : Option ChannelId
  uSupport : Nat
  kbus : Nat
  isupMax : Nat
  deriving DecidableEq, Repr

/-- The bus monitor (Chapter 9). -/
structure Bus where
  latest : Nat
  /-- The moment of the last conversion, or of the end of the reset (model's clock, log 2). -/
  sampledAt : Nat
  profile : Option BusProfile
  chopperOn : Bool
  turnOns : Nat
  ovOpen : Bool
  ovCount : Nat
  uvSet : Bool
  uvDebounce : Nat
  uvCount : Nat
  mainsAsserted : Bool
  ride : RideState
  rideTimer : Option Nat
  rideEnteredAt : Nat
  ridesBegun : Nat
  ridesExpired : Nat
  supportCurrent : Int
  deriving DecidableEq, Repr

/-- A machine input (Chapter 10). -/
structure Input where
  high : Bool
  filterCount : Nat
  changes : Nat
  activeLow : Bool
  function : InputFunction
  filterLength : Nat
  notice : NoticeEdge
  deriving DecidableEq, Repr

/-- The link receiver and the telegram under assembly (R181): HUNT, SYNC2, HEADER (three forms, by what it still
expects), BODY, and CHECK (two forms). -/
inductive Receiver where
  | hunt
  | sync2
  | headerLength
  | headerKind (length : Nat)
  | headerTag (length : Nat) (kind : Byte)
  | body (length : Nat) (kind tag : Byte) (payload : List Byte)
  | check (kind tag : Byte) (payload : List Byte)
  | checkHigh (kind tag : Byte) (payload : List Byte) (low : Byte)
  deriving DecidableEq, Repr

/-- The eleven counts of R188, in the order of its table. -/
structure LinkCounts where
  good : Nat
  crc : Nat
  length : Nat
  gap : Nat
  framing : Nat
  malformed : Nat
  badChannel : Nat
  busy : Nat
  lostBusy : Nat
  telemetryDropped : Nat
  watchdogExpiries : Nat
  deriving DecidableEq, Repr

/-- The link watchdog (R185); RUNNING holds the moment of its expiry. -/
inductive Watchdog where
  | off
  | running (expiry : Nat)
  | expired
  deriving DecidableEq, Repr

/-- The link receiver's state (R181, R182, R185, R188). -/
structure Link where
  receiver : Receiver
  /-- The CRC register (R180). -/
  crc : BitVec 16
  /-- The moment of the last byte's arrival since the reset, if any, from which the gap timer runs outside HUNT (R182). -/
  lastByteAt : Option Nat
  watchdog : Watchdog
  tLink : Nat
  counts : LinkCounts
  deriving DecidableEq, Repr

/-- A request telegram (R183). -/
structure Request where
  kind : Byte
  tag : Byte
  payload : List Byte
  deriving DecidableEq, Repr

/-- An outbound telegram (R186). `endsReset` marks the reply to DEVICE_RESET, whose last byte lets the reset take
effect (R196). -/
structure Telegram where
  cls : TelegramClass
  kind : Byte
  tag : Byte
  payload : List Byte
  endsReset : Bool
  deriving DecidableEq, Repr

/-- The telegram on the outbound line: its bytes (R179, R180) and the moment its first byte began. -/
structure Sending where
  telegram : Telegram
  bytes : List Byte
  startedAt : Nat
  deriving DecidableEq, Repr

/-- The report transmitter (R186, R187, R192): the telegram on the line and those that wait, oldest first, together
the entries of the transmit queue. -/
structure Report where
  sending : Option Sending
  waiting : List Telegram
  eventsLost : Bool
  enables : BitVec 8
  deriving DecidableEq, Repr

/-- The state of the part. -/
structure State where
  /-- The commands that wait, first in, first out (the model's own; log 30). -/
  pending : List Instr
  /-- The model's clock, in cycles of the 80 MHz reference (log 2). -/
  now : Nat
  /-- The index of the next free value (the model's own; log 35). -/
  free : Nat
  resetHeld : Bool
  resetCause : ResetCause
  /-- The moment from which the time since reset counts (R196). -/
  resetAt : Nat
  channels : Vector Channel 10
  pairs : Vector Pair 5
  engine : Option Computation
  bus : Bus
  inputs : Vector Input 8
  /-- The moment of the last input sample (model's clock, log 2). -/
  inputsSampledAt : Nat
  link : Link
  /-- The command queue (R184). -/
  commands : List Request
  /-- A DEVICE_RESET awaits its effect (R184). -/
  resetAwaited : Bool
  report : Report
  deriving DecidableEq, Repr

/-- Why a command could stop the part: never. The spec gives the part no state in which it stops; its "faults" are
state of the channels (Chapter 8). So no command raises a fault. -/
inductive Fault where
  deriving DecidableEq, Repr

/-- Why a command is turned away by the model. -/
inductive Refusal where
  /-- The command has no meaning yet; raised only by an arm of `exec`. Safe: nothing can be claimed of its effect. -/
  | notModelled (mnemonic : String)
  deriving DecidableEq, Repr

/-! ## Reset values -/

/-- R8, R17. -/
def TimebaseValues.reset : TimebaseValues :=
  { prescale := 1, n := 2500, mode := .half, dt := 80, cmin := 40, tdc := 0, db := 0 }

/-- R10, R11, R17. -/
def SensingValues.reset : SensingValues := { offA := 2048, offB := 2048, itrip := 32767 }

/-- R40. -/
def LoopValues.reset : LoopValues := { kpD := 0, kiD := 0, kpQ := 0, kiQ := 0, mlim := 37837 }

/-- R17. -/
def EncoderValues.reset : EncoderValues := { cpr := 4096, pp := 1, thetaOff := 0, pos0 := 0, inverted := false }

/-- R54. -/
def LimitsValues.reset : LimitsValues :=
  { ilim := 0, idLim := 0, icont := 0, rampSlope := 256, holdLimit := 8, lateLimit := 3, brakeSpeed := 0,
    brakeTime := 500 }

/-- R109. -/
def ThermalValues.reset : ThermalValues :=
  { awarn := 4000000000, aclear := 3000000000, atrip := 4294967295 }

/-- R132, R152. -/
def FaultsValues.reset : FaultsValues :=
  { mask := 5, dcOverEnd := .held, dcUnderEnd := .held, i2tEnd := .held, starvedEnd := .held, encoderBrakes := false }

/-- R55. -/
def IdleValues.reset : IdleValues :=
  { parkAllowed := false, parkExponent := 10, tBoot := 200, holdoff := 20, tStale := 50 }

/-- No block waits (R77). -/
def Waiting.none : Waiting :=
  { timebase := .none, loop := .none, encoder := .none, limits := .none, thermal := .none, windows := .none,
    faults := .none, idle := .none }

/-- Both switches off (R6). The off-ticks are the model's choice (DESIGN CHOICE, log 17). -/
def Phase.reset : Phase := { high := { on := false, offTicks := 0 }, low := { on := false, offTicks := 0 } }

/-- Half duty of the default N (R17, R39). -/
def Compare.reset : Compare := { a := 1250, b := 1250, c := 1250 }

/-- R17; the counting direction of the stopped counter, which R17 leaves open, is up (DESIGN CHOICE, log 23). -/
def Timebase.reset : Timebase :=
  { counter := 0, up := true, period := 0, compare := Compare.reset, staged := .none, gateMode := .off,
    phaseA := Phase.reset, phaseB := Phase.reset, phaseC := Phase.reset, periodStart := 0 }

/-- R17. -/
def Sample.reset : Sample :=
  { converting := false, ia := 0, ib := 0, ic := 0, trip := false, driverAsserted := false }

/-- R17, R154. -/
def Position.reset : Position :=
  { count := 0, tracks := .none, latched := 0, previous := 0, relatch := true, omega := 0, theta := 0, illegal := 0,
    udc := 0 }

/-- R94, R95; the period's feed-forward is the model's (DESIGN CHOICE, log 23). -/
def SetpointQueue.reset : SetpointQueue :=
  { records := [], baseId := 0, baseIq := 0, periodVff := 0, starvation := 0, starved := false, taken := 0, late := 0,
    revised := 0, refusedFull := 0, refusedCoupled := 0, dropped := 0 }

/-- R108. -/
def BlockFlags.clear : BlockFlags :=
  { override := false, corrected := false, posBlocked := false, negBlocked := false, capped := false,
    circleLimited := false }

/-- R108, R114; the base reference, the feed-forward, the cap and the containing windows are the model's (DESIGN CHOICE,
log 23). -/
def RefPath.reset : RefPath :=
  { baseId := 0, baseIq := 0, appliedId := 0, appliedIq := 0, vff := 0, flags := BlockFlags.clear, cap := .none,
    containing := [], accumulator := 0, derate := false, tripped := false }

/-- R39. -/
def LoopState.reset : LoopState :=
  { intD := 0, intQ := 0, vd := 0, vq := 0, clampD := false, clampQ := false, lastStaged := Compare.reset }

/-- R52. -/
def EngineSide.reset : EngineSide :=
  { slot := .empty, mark := .none, consecutiveLate := 0, latePeriods := 0, replaced := 0, discarded := 0 }

/-- R70, R78. -/
def OpRecord.reset : OpRecord := { inProgress := .none, done := false, last := .none }

/-- R78. -/
def Timers.stopped : Timers := { charge := .none, park := .none, brake := .none, holdoff := .none }

/-- R78. -/
def StopValues.reset : StopValues := { rd := 0, rq := 0, slowCount := 0, brakeEnd := .none }

/-- R78; the time of suspension is the model's (DESIGN CHOICE, log 23). -/
def Calibration.reset : Calibration := { condition := .empty, sumA := 0, sumB := 0, count := 0, suspendedAt := 0 }

/-- R152. -/
def FaultRecord.reset : FaultRecord := { active := .none, pending := [], seen := 0, first := .none }

/-- A channel after a device reset. -/
def Channel.reset : Channel :=
  { kind := .axis, state := .unconfigured, timebase := TimebaseValues.reset, sensing := SensingValues.reset,
    loop := LoopValues.reset, encoder := EncoderValues.reset, limits := LimitsValues.reset,
    thermal := ThermalValues.reset, windows := [], faults := FaultsValues.reset, idle := IdleValues.reset,
    waiting := Waiting.none, tb := Timebase.reset, sample := Sample.reset, pos := Position.reset,
    queue := SetpointQueue.reset, ref := RefPath.reset, loopState := LoopState.reset, eng := EngineSide.reset,
    op := OpRecord.reset, timers := Timers.stopped, stop := StopValues.reset, cal := Calibration.reset,
    record := FaultRecord.reset, divisor := 0, countdown := .none }

/-- R115. -/
def Pair.reset : Pair :=
  { coupled := false, kskew := 0, corrMax := 0, skewLimit := 2147483647, skewOffset := 0, delta := 0, corr := 0,
    skewHolds := false, skewRaised := false }

/-- R170; the two moments are the model's (DESIGN CHOICE, log 2, 23). -/
def Bus.reset : Bus :=
  { latest := 0, sampledAt := 0, profile := .none, chopperOn := false, turnOns := 0, ovOpen := false, ovCount := 0,
    uvSet := false, uvDebounce := 0, uvCount := 0, mainsAsserted := false, ride := .normal, rideTimer := .none,
    rideEnteredAt := 0, ridesBegun := 0, ridesExpired := 0, supportCurrent := 0 }

/-- R178. -/
def Input.reset : Input :=
  { high := false, filterCount := 0, changes := 0, activeLow := false, function := .general, filterLength := 4,
    notice := .none }

/-- R188. -/
def LinkCounts.reset : LinkCounts :=
  { good := 0, crc := 0, length := 0, gap := 0, framing := 0, malformed := 0, badChannel := 0, busy := 0,
    lostBusy := 0, telemetryDropped := 0, watchdogExpiries := 0 }

/-- R188; no byte has arrived since the reset. The CRC register is the model's (DESIGN CHOICE, log 23). -/
def Link.reset : Link :=
  { receiver := .hunt, crc := 0xFFFF#16, lastByteAt := .none, watchdog := .off, tLink := 0, counts := LinkCounts.reset }

/-- R188, R192: the queue is empty, the line idle, every enable on. -/
def Report.reset : Report := { sending := .none, waiting := [], eventsLost := false, enables := 0xFF#8 }

/-- The part right after a device reset, every block at the reset values of its chapter. The RESET_DONE telegram
that follows every device reset is queued by the reset commands (log 7). -/
def State.reset : State :=
  { pending := [], now := 0, free := 0, resetHeld := false, resetCause := .powerOn, resetAt := 0,
    channels := Vector.replicate 10 Channel.reset, pairs := Vector.replicate 5 Pair.reset, engine := .none,
    bus := Bus.reset, inputs := Vector.replicate 8 Input.reset, inputsSampledAt := 0, link := Link.reset,
    commands := [], resetAwaited := false, report := Report.reset }

end Sys2Proof.Machine
end

