-- ==== Sys2Proof/Machine/Flags.lean ====
section
/-! DEFINITION. What a channel's state fixes (R56), and the codes and flag words that telegrams carry (12.6). -/

namespace Sys2Proof.Machine

/-- The gate mode of each state (R56). -/
def ChState.gateMode : ChState → GateMode
  | .unconfigured => .off
  | .disabled => .off
  | .calibrating => .off
  | .charging => .lowOn
  | .running => .modulate
  | .parked => .off
  | .stopping .brake => .lowOn
  | .stopping _ => .modulate
  | .faulted => .off

/-- Whether a channel computes in a state (R56). -/
def ChState.computes : ChState → Bool
  | .running => true
  | .stopping .rampHost => true
  | .stopping .rampFault => true
  | _ => false

/-- Whether the setpoint queue takes records in a state (R56, R83). -/
def ChState.takes : ChState → Bool
  | .charging => true
  | .running => true
  | .parked => true
  | .stopping _ => true
  | _ => false

/-- The reference states of R97. -/
def ChState.isReference : ChState → Bool
  | .charging => true
  | .running => true
  | .parked => true
  | _ => false

/-- STOPPING with kind RAMP. -/
def ChState.ramps : ChState → Bool
  | .stopping .rampHost => true
  | .stopping .rampFault => true
  | _ => false

/-- Any state but UNCONFIGURED. -/
def ChState.configured : ChState → Bool
  | .unconfigured => false
  | _ => true

/-- STOPPING in any form. -/
def ChState.isStopping : ChState → Bool
  | .stopping _ => true
  | _ => false

/-- The state byte of 12.6.2: the code, bit 4 for stop kind BRAKE, bit 5 for stop cause FAULT. -/
def ChState.byte : ChState → Byte
  | .unconfigured => 0
  | .disabled => 1
  | .calibrating => 2
  | .charging => 3
  | .running => 4
  | .parked => 5
  | .stopping .rampHost => 6
  | .stopping .rampFault => 0x26
  | .stopping .brake => 0x36
  | .faulted => 7

/-- The code of a source (R130). -/
def Source.code : Source → Nat
  | .overcurrent => 1
  | .driver => 2
  | .sto => 3
  | .dcOver => 4
  | .encoder => 5
  | .late => 6
  | .dcUnder => 7
  | .skew => 8
  | .powerLoss => 9
  | .i2t => 10
  | .linkLoss => 11
  | .starved => 12

/-- The priority number of a source, lower more urgent (R130). -/
def Source.priority : Source → Nat
  | .overcurrent => 0
  | .driver => 0
  | .sto => 0
  | .dcOver => 1
  | .encoder => 1
  | .late => 1
  | .dcUnder => 2
  | .skew => 2
  | .powerLoss => 2
  | .i2t => 3
  | .linkLoss => 3
  | .starved => 4

/-- The reaction of a source; that of ENCODER is set in the FAULTS values (R130). -/
def Source.reaction (encoderBrakes : Bool) : Source → Reaction
  | .overcurrent => .gatesOff
  | .driver => .gatesOff
  | .sto => .gatesOff
  | .dcOver => .gatesOff
  | .encoder => if encoderBrakes then .shortBrake else .gatesOff
  | .late => .gatesOff
  | .dcUnder => .rampStop
  | .skew => .rampStop
  | .powerLoss => .gatesOff
  | .i2t => .rampStop
  | .linkLoss => .rampStop
  | .starved => .rampStop

/-- The end mode of a source; four are set in the FAULTS values (R130). -/
def Source.endMode (f : FaultsValues) : Source → EndMode
  | .overcurrent => .held
  | .driver => .held
  | .sto => .auto
  | .dcOver => f.dcOverEnd
  | .encoder => .held
  | .late => .held
  | .dcUnder => f.dcUnderEnd
  | .skew => .held
  | .powerLoss => .held
  | .i2t => f.i2tEnd
  | .linkLoss => .held
  | .starved => f.starvedEnd

/-- The code of an entry: PARTNER is 13 (R130). -/
def Entry.code : Entry → Nat
  | .own source => source.code
  | .partner _ _ _ => 13

/-- The code of an entry's cause, 0xFF for none (R130). -/
def Entry.causeCode : Entry → Nat
  | .own _ => 0xFF
  | .partner cause _ _ => cause.code

/-- The priority number of an entry: a PARTNER takes its cause's (R126). -/
def Entry.priority : Entry → Nat
  | .own source => source.priority
  | .partner cause _ _ => cause.priority

/-- Two entries name the same source, for PARTNER with the same cause (R131, R133). -/
def Entry.same : Entry → Entry → Bool
  | .own a, .own b => a == b
  | .partner a _ _, .partner b _ _ => a == b
  | .own _, .partner _ _ _ => false
  | .partner _ _ _, .own _ => false

/-- Whether an entry is PARTNER. -/
def Entry.isPartner : Entry → Bool
  | .own _ => false
  | .partner _ _ _ => true

/-- The reaction of an entry as it stands on its channel (R137). -/
def Entry.reaction (f : FaultsValues) : Entry → Reaction
  | .own source => source.reaction f.encoderBrakes
  | .partner _ reaction _ => reaction

/-- The end mode of an entry as it stands on its channel (R139 to R141). -/
def Entry.endMode (f : FaultsValues) : Entry → EndMode
  | .own source => source.endMode f
  | .partner _ _ endMode => endMode

/-- The codes of the operations, 0 for none (12.6.8). -/
def opCode : Option Operation → Byte
  | .none => 0
  | .some .calibrate => 1
  | .some .charge => 2
  | .some .hostStop => 3
  | .some .faultStop => 4
  | .some .brake => 5

/-- The codes of the outcomes, 0 for none (12.6.8). -/
def outcomeCode : Option OpOutcome → Byte
  | .none => 0
  | .some .completed => 1
  | .some .suspended => 2
  | .some .aborted => 3

/-- The codes of the brake end reasons (12.6.8). -/
def BrakeEnd.code : BrakeEnd → Byte
  | .none => 0
  | .speed => 1
  | .time => 2

/-- The codes of the calibration conditions (12.6.8). -/
def CalCondition.code : CalCondition → Byte
  | .empty => 0
  | .running => 1
  | .suspended => 2

/-- The codes of the ride-through states (12.6.8). -/
def RideState.code : RideState → Byte
  | .normal => 0
  | .rideThrough => 1
  | .expired => 2

/-- The codes of the reset causes (12.6.2). -/
def ResetCause.code : ResetCause → Byte
  | .powerOn => 0
  | .resetLine => 1
  | .resetRequest => 2

/-- The codes of the notice edges (12.6.3). -/
def NoticeEdge.code : NoticeEdge → Byte
  | .none => 0
  | .assert => 1
  | .release => 2
  | .both => 3

/-- The codes of the input functions (12.6.3). -/
def InputFunction.code : InputFunction → Byte
  | .general => 0
  | .limitPos _ => 1
  | .limitNeg _ => 2
  | .sto _ => 3

/-- The codes of the channel kinds (12.6.3). -/
def ChannelKind.code : ChannelKind → Byte
  | .axis => 0
  | .spindle => 1

/-- Busy (R70). -/
def OpRecord.busy (o : OpRecord) : Bool := o.inProgress.isSome

/-- The telemetry flags of 12.6.6, but for coupled and events-lost, which other blocks own. -/
def Channel.telemetryFlags (x : Channel) (coupled eventsLost : Bool) : Nat :=
  bitsToNat [x.ref.derate, x.loopState.clampD, x.loopState.clampQ, x.queue.starved,
    decide (0 < x.eng.consecutiveLate), coupled, x.op.busy, x.op.done, eventsLost]

/-- The block flags byte of the channel query (12.6.8). -/
def BlockFlags.toNat (f : BlockFlags) : Nat :=
  bitsToNat [f.override, f.corrected, f.posBlocked, f.negBlocked, f.capped, f.circleLimited]

/-- The end-mode byte of the FAULTS block (12.6.5): a bit is set for AUTO. -/
def FaultsValues.endModeBits (f : FaultsValues) : Nat :=
  bitsToNat [f.dcOverEnd == .auto, f.dcUnderEnd == .auto, f.i2tEnd == .auto, f.starvedEnd == .auto]

end Sys2Proof.Machine
end

