-- ==== Sys2Proof/Machine/Gates.lean ====
section
/-! DEFINITION. The six gate outputs of a channel: demands (R6), dead time (R7) and changes of gate mode (R5, R6). -/

namespace Sys2Proof.Machine

/-- The high-side demand of a phase with compare value `cx` (R6). -/
def Channel.demandHigh (x : Channel) (cx : Nat) : Bool :=
  match x.tb.gateMode with
  | .off => false
  | .lowOn => false
  | .modulate => decide (x.timebase.n ≤ x.tb.counter + cx)

/-- The low-side demand of a phase with compare value `cx` (R6). -/
def Channel.demandLow (x : Channel) (cx : Nat) : Bool :=
  match x.tb.gateMode with
  | .off => false
  | .lowOn => true
  | .modulate => !x.demandHigh cx

/-- One more tick off, counted up to the largest DT (R7, R8). -/
def Switch.age (w : Switch) : Switch := if w.on then w else { w with offTicks := min 255 (w.offTicks + 1) }

/-- A switch turns off at the tick on which its demand ends (R7). -/
def Switch.drop (demand : Bool) (w : Switch) : Switch := if w.on && !demand then { on := false, offTicks := 0 } else w

/-- A switch turns on when its demand is present and its complement has been off for at least DT ticks (R7). -/
def Switch.rise (demand : Bool) (dt : Nat) (w other : Switch) : Switch :=
  if demand && !w.on && !other.on && decide (dt ≤ other.offTicks) then { on := true, offTicks := 0 } else w

/-- The two switches of a phase follow their demands under the dead-time rule (R7). -/
def Phase.drive (demandHigh demandLow : Bool) (dt : Nat) (p : Phase) : Phase :=
  let low := p.low.drop demandLow
  let high := (p.high.drop demandHigh).rise demandHigh dt low
  { high := high, low := low.rise demandLow dt high }

/-- One tick passes for the switches that are off. -/
def Phase.age (p : Phase) : Phase := { high := p.high.age, low := p.low.age }

/-- The outputs follow the demands now in force (R6, R7). -/
def Channel.driveGates (x : Channel) : Channel :=
  { x with tb :=
    { x.tb with
      phaseA := x.tb.phaseA.drive (x.demandHigh x.tb.compare.a) (x.demandLow x.tb.compare.a) x.timebase.dt
      phaseB := x.tb.phaseB.drive (x.demandHigh x.tb.compare.b) (x.demandLow x.tb.compare.b) x.timebase.dt
      phaseC := x.tb.phaseC.drive (x.demandHigh x.tb.compare.c) (x.demandLow x.tb.compare.c) x.timebase.dt } }

/-- One tick passes for all six switches. -/
def Channel.ageGates (x : Channel) : Channel :=
  { x with tb :=
    { x.tb with phaseA := x.tb.phaseA.age, phaseB := x.tb.phaseB.age, phaseC := x.tb.phaseC.age } }

/-- Half duty of the N in force (R5). -/
def Channel.halfDuty (x : Channel) : Compare := { a := x.timebase.n / 2, b := x.timebase.n / 2, c := x.timebase.n / 2 }

/-- The gate mode is commanded: a change empties the staged set, sets half duty on entry to MODULATE, and reaches
the outputs at once (R5, R6, R56). -/
def Channel.commandGate (mode : GateMode) (x : Channel) : Channel :=
  if x.tb.gateMode = mode then x
  else
    Channel.driveGates { x with tb :=
      { x.tb with
        gateMode := mode
        staged := none
        compare := if mode = .modulate then x.halfDuty else x.tb.compare } }

/-- A running counter moves by one tick: up to N, down to 0, and up again (R1). -/
def Channel.countTick (x : Channel) : Channel :=
  if x.tb.up then
    { x with tb := { x.tb with counter := x.tb.counter + 1, up := decide (x.tb.counter + 1 < x.timebase.n) } }
  else
    { x with tb := { x.tb with counter := x.tb.counter - 1, up := decide (x.tb.counter ≤ 1) } }

/-- The ticks of the period that have passed (R1). -/
def Channel.ticksPassed (x : Channel) : Nat :=
  if x.tb.up then x.tb.counter else 2 * x.timebase.n - x.tb.counter

/-- One tick of the prescaled clock of a running timebase: the counter moves, and the demands of R6 are applied
under R7. -/
def Channel.tick (x : Channel) : Channel := x.countTick.ageGates.driveGates

end Sys2Proof.Machine
end

