-- ==== Sys2Proof/WellFormed.lean ====
section
/-! DEFINITION. Which commands can occur at all: what the frame of a telegram, the filters and the converters
allow. The machine is total and gives every command a next state, ill-formed ones too. -/

namespace Sys2Proof

/-- The longest payload a telegram frame can carry (R179). -/
def maxPayload : Nat := 248

/-- The request kinds of spec 12.6.2. -/
def requestKinds : List Byte :=
  [0x10, 0x11, 0x12, 0x13, 0x14, 0x15, 0x16, 0x20, 0x21, 0x22, 0x23, 0x24, 0x25, 0x26, 0x27, 0x28,
   0x30, 0x31, 0x32, 0x33, 0x34, 0x38, 0x39]

/-- The kind of a SETPOINT telegram (spec 12.6.2). -/
def setpointKind : Byte := 0x01

/-- The payload fits a telegram (R179). -/
def payloadFits (payload : List Byte) : Bool := decide (payload.length ≤ maxPayload)

/-- No channel completes two conversions at one moment, and one completes at least (R9). -/
def samplesDistinct (samples : List RawSample) : Bool :=
  !samples.isEmpty && decide ((samples.map RawSample.channel).Nodup)

/-- Whether a command can occur. -/
def Instr.wellFormed : Instr → Bool
  | .powerOn => true
  | .resetLineAssert => true
  | .resetLineRelease => true
  | .deviceResetTakesEffect => true
  | .valley _ => true
  | .peak _ => true
  | .conversionCompletion samples => samplesDistinct samples
  | .engineCompletion => true
  | .encoderStep _ _ _ => true
  | .illegalTransition _ => true
  | .gateDriverLineChange _ _ agreeing => decide (2 ≤ agreeing)
  | .chargeTimerExpiry _ => true
  | .parkTimerExpiry _ => true
  | .brakeTimerExpiry _ => true
  | .holdoffTimerExpiry _ => true
  | .dcLinkSample _ => true
  | .mainsFailChange _ agreeing => decide (20 ≤ agreeing)
  | .rideTimerExpiry => true
  | .inputFilteredChange _ _ => true
  | .setpoint _ payload => payloadFits payload
  | .requestTelegram kind _ payload => kind != setpointKind && payloadFits payload
  | .crcError => true
  | .lengthError length => decide (maxPayload < length.toNat)
  | .gapError => true
  | .framingError => true
  | .linkWatchdogExpiry => true
  | .transmitEnd => true
  | .badKind kind _ payload => kind != setpointKind && !requestKinds.contains kind && payloadFits payload
  | .identify _ payload => payloadFits payload
  | .loadProfile _ payload => payloadFits payload
  | .readProfile _ payload => payloadFits payload
  | .configureBus _ payload => payloadFits payload
  | .configureInputs _ payload => payloadFits payload
  | .configureReports _ payload => payloadFits payload
  | .configureLink _ payload => payloadFits payload
  | .enable _ payload => payloadFits payload
  | .disable _ payload => payloadFits payload
  | .calibrate _ payload => payloadFits payload
  | .cancelOperation _ payload => payloadFits payload
  | .couple _ payload => payloadFits payload
  | .uncouple _ payload => payloadFits payload
  | .clearFaults _ payload => payloadFits payload
  | .setMask _ payload => payloadFits payload
  | .flushSetpoints _ payload => payloadFits payload
  | .queryChannel _ payload => payloadFits payload
  | .queryFaults _ payload => payloadFits payload
  | .queryBus _ payload => payloadFits payload
  | .queryInputs _ payload => payloadFits payload
  | .queryLink _ payload => payloadFits payload
  | .channelReset _ payload => payloadFits payload
  | .deviceReset _ payload => payloadFits payload
  | .byteArrival _ => true
  | .inputSampleEvent _ => true
  | .prescaledClockTick _ => true

end Sys2Proof
end

