-- ==== Sys2Proof/Machine/Telegrams.lean ====
section
/-! DEFINITION. What the part sends: the frame (R179, R180), status codes, and the events of 12.6.7. -/

namespace Sys2Proof.Machine

/-- The status codes of replies (12.6.2). -/
inductive Status where
  | ok | busy | badKind | badLength | badChannel | badState | badValue | missingBlock | coupled | rideThrough
  deriving DecidableEq, Repr

/-- The code of a status (12.6.2). -/
def Status.code : Status → Byte
  | .ok => 0
  | .busy => 1
  | .badKind => 2
  | .badLength => 3
  | .badChannel => 4
  | .badState => 5
  | .badValue => 6
  | .missingBlock => 7
  | .coupled => 8
  | .rideThrough => 9

/-- What becomes of a raised source (R149). -/
inductive Disposition where
  | warning | pending | active
  deriving DecidableEq, Repr

/-- The code of a disposition (12.6.7). -/
def Disposition.code : Disposition → Byte
  | .warning => 0
  | .pending => 1
  | .active => 2

/-- How an entry left a record (R149). -/
inductive Manner where
  | auto | cleared | uncoupled
  deriving DecidableEq, Repr

/-- The code of a manner (12.6.7). -/
def Manner.code : Manner → Byte
  | .auto => 0
  | .cleared => 1
  | .uncoupled => 2

/-- The eight kinds of event with their content (R194, 12.6.7). -/
inductive Event where
  | fault (c : ChannelId) (entry : Entry) (disposition : Disposition) (period : BitVec 16)
  | faultCleared (c : ChannelId) (entry : Entry) (manner : Manner) (period : BitVec 16)
  | state (c : ChannelId) (old new : ChState) (period : BitVec 16)
  | calibrated (c : ChannelId) (offA offB : Nat)
  | input (i : InputId) (high active : Bool) (actives changes : Nat)
  | rideBegin (latest : Nat) (support : Option ChannelId)
  | rideEnd (afterExpiry : Bool) (elapsedMs : Nat)
  | resetDone (cause : ResetCause)
  deriving DecidableEq, Repr

/-- The event code (12.6.7). -/
def Event.code : Event → Nat
  | .fault _ _ _ _ => 1
  | .faultCleared _ _ _ _ => 2
  | .state _ _ _ _ => 3
  | .calibrated _ _ _ => 4
  | .input _ _ _ _ _ => 5
  | .rideBegin _ _ => 6
  | .rideEnd _ _ => 7
  | .resetDone _ => 8

/-- A number as one byte. -/
def byteOf (n : Nat) : Byte := BitVec.ofNat 8 n

/-- A support channel as a byte, 0xFF for none (12.6.3). -/
def supportByte : Option ChannelId → Byte
  | some c => byteOf c.val
  | none => 0xFF

/-- The payload of an event (12.6.7). The time since entry of RIDE_END wraps modulo 2^32 ms, as its four bytes hold it
(DESIGN CHOICE, log 53). -/
def Event.payload : Event → List Byte
  | .fault c e d period => [1, byteOf c.val, byteOf e.code, byteOf e.causeCode, d.code] ++ le16 period.toNat
  | .faultCleared c e m period => [2, byteOf c.val, byteOf e.code, byteOf e.causeCode, m.code] ++ le16 period.toNat
  | .state c old new period => [3, byteOf c.val, old.byte, new.byte] ++ le16 period.toNat
  | .calibrated c offA offB => [4, byteOf c.val] ++ le16 offA ++ le16 offB
  | .input i high active actives changes =>
    [5, 0xFF, byteOf i.val, yesNo high, yesNo active, byteOf actives] ++ le16 changes
  | .rideBegin latest support => [6, supportByte support] ++ le16 latest
  | .rideEnd afterExpiry elapsed => [7, 0xFF, yesNo afterExpiry] ++ le32 elapsed
  | .resetDone cause => [8, 0xFF, cause.code] ++ le16 Config.partCode ++ [byteOf Config.revision]

/-- The kind of event telegrams (12.6.2). -/
def eventKind : Byte := 0x40

/-- The kind of telemetry telegrams (12.6.2). -/
def telemetryKind : Byte := 0x41

/-- The bytes that the CRC covers: length, kind, tag and payload (R180). -/
def coveredBytes (kind tag : Byte) (payload : List Byte) : List Byte :=
  byteOf payload.length :: kind :: tag :: payload

/-- The frame of a telegram: sync, length, kind, tag, payload and the CRC, low byte first (R179). -/
def frame (kind tag : Byte) (payload : List Byte) : List Byte :=
  0xA5#8 :: 0x3C#8 :: coveredBytes kind tag payload ++ le16 (crcOf (coveredBytes kind tag payload)).toNat

/-- The kind of the reply to a request kind (R189). -/
def replyKind (kind : Byte) : Byte := kind + 0x80

/-- What a reply that is not OK carries after its status: nothing, but 0xFF and 0xFF for CLEAR_FAULTS (R146, R189;
DEDUCED for its BUSY, BAD_LENGTH and BAD_CHANNEL, log 19). -/
def refusalContent (kind : Byte) : List Byte := if kind = 0x26#8 then [0xFF, 0xFF] else []

end Sys2Proof.Machine
end

