-- ==== Sys2Proof/Machine/Ops.lean ====
section
/-! DEFINITION. The named operations over the state: reading and writing one channel, pair or input, the model's
clock, and the transmit queue with what enters it. -/

namespace Sys2Proof.Machine

/-! ## Reading and writing -/

/-- The ten channels in ascending order (R151). -/
def allChannels : List ChannelId := [0, 1, 2, 3, 4, 5, 6, 7, 8, 9]

/-- The eight inputs in ascending order. -/
def allInputs : List InputId := [0, 1, 2, 3, 4, 5, 6, 7]

/-- A channel. -/
def State.ch (s : State) (c : ChannelId) : Channel := s.channels[c]

/-- Replace a channel. -/
def State.setCh (s : State) (c : ChannelId) (x : Channel) : State := { s with channels := s.channels.set c x }

/-- Change a channel. -/
def State.modCh (s : State) (c : ChannelId) (f : Channel → Channel) : State := s.setCh c (f (s.ch c))

/-- A pair coupler. -/
def State.pair (s : State) (p : PairId) : Pair := s.pairs[p]

/-- Replace a pair coupler. -/
def State.setPair (s : State) (p : PairId) (x : Pair) : State := { s with pairs := s.pairs.set p x }

/-- A machine input. -/
def State.input (s : State) (i : InputId) : Input := s.inputs[i]

/-- Replace a machine input. -/
def State.setInput (s : State) (i : InputId) (x : Input) : State := { s with inputs := s.inputs.set i x }

/-- Do the same for each channel of a list, in order. -/
def State.forEach (cs : List ChannelId) (f : ChannelId → State → State) (s : State) : State :=
  cs.foldl (fun t c => f c t) s

/-- The pair a channel belongs to (spec 00, 5.2). -/
def pairOf (c : ChannelId) : PairId := ⟨c.val / 2, by omega⟩

/-- The master of a pair. -/
def masterOf (p : PairId) : ChannelId := ⟨2 * p.val, by omega⟩

/-- The follower of a pair. -/
def followerOf (p : PairId) : ChannelId := ⟨2 * p.val + 1, by omega⟩

/-- Whether a channel is the master of its pair. -/
def isMaster (c : ChannelId) : Bool := decide (c.val % 2 = 0)

/-- The other channel of the pair. -/
def mateOf (c : ChannelId) : ChannelId := if isMaster c then followerOf (pairOf c) else masterOf (pairOf c)

/-- Whether a channel's pair is coupled (R115). -/
def State.isCoupled (s : State) (c : ChannelId) : Bool := (s.pair (pairOf c)).coupled

/-- The channel itself, or both channels of its coupled pair. Where both act in one event, a joint ENABLE, DISABLE,
charge or park expiry, wake or end of ramps, the master acts first and its STATE event is requested first: the spec
orders the raises alone (R151) (DESIGN CHOICE, log 39). -/
def State.group (s : State) (c : ChannelId) : List ChannelId :=
  if s.isCoupled c then [masterOf (pairOf c), followerOf (pairOf c)] else [c]

/-- The channel whose setpoint queue and timers serve `c`: the master while its pair is coupled (R92, R124). -/
def State.leader (s : State) (c : ChannelId) : ChannelId :=
  if s.isCoupled c then masterOf (pairOf c) else c

/-- Whether a channel is the follower of a coupled pair (R83). -/
def State.isFollower (s : State) (c : ChannelId) : Bool := s.isCoupled c && !isMaster c

/-! ## The model's clock -/

/-- An event that was due at `moment` happens: the clock stands there at least (log 2). -/
def State.reach (moment : Nat) (s : State) : State := { s with now := max s.now moment }

/-- Whole milliseconds from a moment to now (rounding DEDUCED, log 13). -/
def State.msSince (s : State) (moment : Nat) : Nat := (s.now - moment) / Config.cyclesPerMs

/-- Whole milliseconds from now to a moment (log 13). -/
def State.msUntil (s : State) (moment : Nat) : Nat := (moment - s.now) / Config.cyclesPerMs

/-! ## The transmit queue -/

/-- The number of entries held (R186). -/
def Report.fill (r : Report) : Nat := r.waiting.length + (if r.sending.isSome then 1 else 0)

/-- All 32 entries are occupied (R186). -/
def Report.full (r : Report) : Bool := decide (32 ≤ r.fill)

/-- A telegram begins on the line: its bytes are framed and its CRC formed (R179, R180). -/
def Telegram.begin (t : Telegram) (now : Nat) : Sending :=
  { telegram := t, bytes := frame t.kind t.tag t.payload, startedAt := now }

/-- A telegram enters the queue: on an idle line it begins at once (R186). -/
def Report.enter (now : Nat) (t : Telegram) (r : Report) : Report :=
  match r.sending with
  | none => { r with sending := some (t.begin now) }
  | some _ => { r with waiting := r.waiting ++ [t] }

/-- The oldest telegram of a class (R186). -/
def oldestOf (cls : TelegramClass) (ts : List Telegram) : Option Telegram := ts.find? (fun t => t.cls == cls)

/-- The telegram sent next: the oldest REPLY, else the oldest EVENT, else the oldest TELEMETRY (R186). -/
def chooseNext (ts : List Telegram) : Option Telegram :=
  (oldestOf .reply ts).or ((oldestOf .event ts).or (oldestOf .telemetry ts))

/-- The line is free: its telegram's entry is freed and the next telegram begins (R186). -/
def Report.advance (now : Nat) (r : Report) : Report :=
  match chooseNext r.waiting with
  | none => { r with sending := none }
  | some t => { r with sending := some (t.begin now), waiting := r.waiting.erase t }

/-- A telegram enters the queue of the part. -/
def State.enqueue (t : Telegram) (s : State) : State := { s with report := s.report.enter s.now t }

/-- The reply to a request, written to the free entry that the dispatcher has found (R184, R189). -/
def State.reply (kind tag : Byte) (status : Status) (content : List Byte) (s : State) : State :=
  s.enqueue { cls := .reply, kind := replyKind kind, tag := tag, payload := status.code :: content, endsReset := false }

/-- A reply that is not OK (R189). -/
def State.refuse (kind tag : Byte) (status : Status) (s : State) : State :=
  s.reply kind tag status (refusalContent kind)

/-- The tag of the next unsolicited telegram: a free value (log 8). -/
def State.takeTag (s : State) : Byte × State := (Config.freeByte s.free, { s with free := s.free + 1 })

/-- Whether an event's kind is enabled (R192, R194). -/
def State.eventEnabled (s : State) (e : Event) : Bool := s.report.enables.getLsbD (e.code - 1)

/-- A block requests an event: built while its kind is enabled, and lost with the events-lost flag set where the
queue is full (R187, R194). -/
def State.emit (e : Event) (s : State) : State :=
  if s.eventEnabled e then
    if s.report.full then { s with report := { s.report with eventsLost := true } }
    else
      s.takeTag.2.enqueue
        { cls := .event, kind := eventKind, tag := s.takeTag.1, payload := e.payload, endsReset := false }
  else s

/-- A count of R188 changes. -/
def State.count (f : LinkCounts → LinkCounts) (s : State) : State :=
  { s with link := { s.link with counts := f s.link.counts } }

/-- A telemetry telegram is offered to the queue: dropped and counted where it is full (R187, R193). -/
def State.offerTelemetry (payload : List Byte) (s : State) : State :=
  if s.report.full then s.count (fun k => { k with telemetryDropped := satInc k.telemetryDropped })
  else
    s.takeTag.2.enqueue
      { cls := .telemetry, kind := telemetryKind, tag := s.takeTag.1, payload := payload, endsReset := false }

/-- The STATE event of a change from `old` (R56). -/
def State.emitState (c : ChannelId) (old : ChState) (s : State) : State :=
  s.emit (.state c old (s.ch c).state (s.ch c).tb.period)

/-! ## What every command meets -/

/-- While the reset line is asserted the part is held at its reset values (R196). -/
def State.live (f : State → State) (s : State) : State := if s.resetHeld then s else f s

end Sys2Proof.Machine
end

