-- ==== Sys2Proof/Machine/Controller.lean ====
section
/-! DEFINITION. The channel controller's shared operations: changes of state (R56), leaving computing (R50), the
operation record (R70), the entries of R59, R65 and R69, the stops of R66 and R67, and the reactions of R68. -/

namespace Sys2Proof.Machine

/-! ## The operation record -/

/-- An operation starts (R70). -/
def Channel.startOp (o : Operation) (x : Channel) : Channel :=
  { x with op := { x.op with inProgress := some o, done := false } }

/-- The operation in progress, if any, ends (R70). -/
def Channel.endOp (outcome : OpOutcome) (x : Channel) : Channel :=
  match x.op.inProgress with
  | none => x
  | some o => { x with op := { inProgress := none, done := outcome == .completed, last := some (o, outcome) } }

/-- The sums and the count are set to 0 and the condition becomes EMPTY (R72, R75, R76). -/
def Channel.clearCalibration (x : Channel) : Channel :=
  { x with cal := { x.cal with condition := .empty, sumA := 0, sumB := 0, count := 0 } }

/-! ## Leaving computing -/

/-- A channel leaves computing: its slot is emptied, its mark removed, and a computation in progress will be
discarded (R50). -/
def State.leaveComputing (c : ChannelId) (s : State) : State :=
  let t := s.modCh c (fun x => { x with eng := { x.eng with slot := .empty, mark := none } })
  { t with engine := t.engine.map (fun k => if k.request.channel = c then { k with left := true } else k) }

/-! ## Changes of state -/

/-- The timers that a change of state stops on the channel itself: the charge timer on leaving CHARGING (R60), the
park timer on leaving RUNNING (R61), the brake timer on leaving the short brake (R67), the holdoff timer on leaving
DISABLED (R74). -/
def Timers.leaving (old : ChState) (t : Timers) : Timers :=
  match old with
  | .charging => { t with charge := none }
  | .running => { t with park := none }
  | .stopping .brake => { t with brake := none }
  | .disabled => { t with holdoff := none }
  | _ => t

/-- The master's timers that serve the pair and are stopped when either channel leaves CHARGING or RUNNING (R124). -/
def Timers.mateLeaving (old : ChState) (t : Timers) : Timers :=
  match old with
  | .charging => { t with charge := none }
  | .running => { t with park := none }
  | _ => t

/-- The channel takes a new state: the gate mode of that state is commanded (R56), computing is left where the new
state does not compute (R50), and the timers of the old state are stopped. -/
def State.moveTo (c : ChannelId) (new : ChState) (s : State) : State :=
  let old := (s.ch c).state
  let s1 := if old.computes && !new.computes then s.leaveComputing c else s
  let s2 := s1.modCh c (fun x =>
    Channel.commandGate new.gateMode { x with state := new, timers := x.timers.leaving old })
  if s2.isFollower c then
    s2.modCh (mateOf c) (fun x => { x with timers := x.timers.mateLeaving old })
  else s2

/-- The setpoint queue is emptied and the starvation run ends (R89, R90). -/
def Channel.emptyQueue (x : Channel) : Channel :=
  { x with queue := { x.queue with records := [], baseId := 0, baseIq := 0, starvation := 0, starved := false } }

/-- The charge, park and brake timers are stopped and the ramp values set to 0 (R65, R69). -/
def Channel.stopMotion (x : Channel) : Channel :=
  { x with
    timers := { x.timers with charge := none, park := none, brake := none }
    stop := { x.stop with rd := 0, rq := 0 } }

/-- The holdoff timer starts where the calibration record is SUSPENDED (R65, R74). -/
def Channel.startHoldoff (now : Nat) (x : Channel) : Channel :=
  if x.cal.condition = .suspended then
    { x with timers := { x.timers with holdoff := some (now + x.idle.holdoff * Config.cyclesPerMs) } }
  else x

/-- Entry to DISABLED; the operation in progress ends with the outcome of the rule that caused the entry (R65). -/
def State.enterDisabled (c : ChannelId) (outcome : OpOutcome) (s : State) : State :=
  let old := (s.ch c).state
  let t := s.moveTo c .disabled
  (t.modCh c (fun x => Channel.startHoldoff t.now (Channel.endOp outcome x.emptyQueue.stopMotion))).emitState c old

/-- A record is empty when it has no active source and no pending entry (R131). -/
def FaultRecord.isEmpty (r : FaultRecord) : Bool := r.active.isNone && r.pending.isEmpty

/-- FAULTED passes to DISABLED where the record is empty (R69, R147). -/
def State.leaveFaultedIfEmpty (c : ChannelId) (s : State) : State :=
  if (s.ch c).state = .faulted ∧ (s.ch c).record.isEmpty then s.enterDisabled c .completed else s

/-- Entry to FAULTED (R69); a channel already FAULTED stays there. The STATE event is requested here, and so before the
FAULT_CLEARED of an AUTO STARVED that the emptied queue lets go: R69 and R140 order the two nowhere (DESIGN CHOICE,
log 57). -/
def State.enterFaulted (c : ChannelId) (s : State) : State :=
  let old := (s.ch c).state
  if old = .faulted then s
  else ((s.moveTo c .faulted).modCh c (fun x => x.emptyQueue.stopMotion)).emitState c old

/-- A reaction completes (R69). -/
def State.completeReaction (c : ChannelId) (s : State) : State := (s.enterFaulted c).leaveFaultedIfEmpty c

/-- The integrators, last voltages and consecutive late count of an entry to CHARGING (R39, R51). -/
def Channel.freshLoop (x : Channel) : Channel :=
  { x with
    loopState := { x.loopState with intD := 0, intQ := 0, vd := 0, vq := 0, clampD := false, clampQ := false }
    eng := { x.eng with consecutiveLate := 0 } }

/-- Entry to CHARGING (R59). The follower of a coupled pair starts no charge timer (R124). -/
def State.enterCharging (c : ChannelId) (s : State) : State :=
  let old := (s.ch c).state
  let t := s.moveTo c .charging
  let timer := if t.isFollower c then none else some (t.now + (t.ch c).idle.tBoot * Config.cyclesPerUs)
  (t.modCh c (fun x =>
    Channel.startOp .charge (Channel.freshLoop
      { x with timers := { x.timers with charge := timer, park := none } }))).emitState c old

/-- Entry to RUNNING at the end of charging (R60). -/
def State.enterRunning (c : ChannelId) (s : State) : State :=
  let old := (s.ch c).state
  ((s.moveTo c .running).modCh c (Channel.endOp .completed)).emitState c old

/-- Entry to PARKED (R62). -/
def State.enterParked (c : ChannelId) (s : State) : State :=
  let old := (s.ch c).state
  (s.moveTo c .parked).emitState c old

/-- Entry to CALIBRATING with the record's sums kept or cleared (R71, R74). -/
def State.enterCalibrating (c : ChannelId) (fresh : Bool) (s : State) : State :=
  let old := (s.ch c).state
  ((s.moveTo c .calibrating).modCh c (fun x =>
    let y := if fresh then x.clearCalibration else x
    Channel.startOp .calibrate { y with cal := { y.cal with condition := .running } })).emitState c old

/-- A ramp stop starts from the applied references of the most recent valley (R66). -/
def State.startRamp (c : ChannelId) (stop : Stop) (operation : Operation) (s : State) : State :=
  let old := (s.ch c).state
  ((s.moveTo c (.stopping stop)).modCh c (fun x =>
    Channel.startOp operation { x with stop := { x.stop with rd := x.ref.appliedId, rq := x.ref.appliedIq } })).emitState
    c old

/-- A short brake starts (R67). -/
def State.startBrake (c : ChannelId) (s : State) : State :=
  let old := (s.ch c).state
  let t := s.moveTo c (.stopping .brake)
  (t.modCh c (fun x =>
    Channel.startOp .brake
      { x with
        timers := { x.timers with brake := some (t.now + x.limits.brakeTime * Config.cyclesPerMs) }
        stop := { x.stop with slowCount := 0 } })).emitState c old

/-- The host's ramp becomes a fault's: HOST_STOP is aborted, FAULT_STOP starts, and the ramp runs on (R68). -/
def State.takeOverRamp (c : ChannelId) (s : State) : State :=
  let old := (s.ch c).state
  ((s.moveTo c (.stopping .rampFault)).modCh c (fun x =>
    Channel.startOp .faultStop (Channel.endOp .aborted x))).emitState c old

/-- The operation in progress is aborted. -/
def State.abortOp (c : ChannelId) (s : State) : State := s.modCh c (Channel.endOp .aborted)

/-- A reaction is commanded and carried out according to the channel's state: the table of R68. A brake that this ends
ABORTED leaves the brake end reason as the brake before it left it: R67 gives a reason to the ends SPEED and TIME alone
(DESIGN CHOICE, log 45). -/
def State.react (c : ChannelId) (reaction : Reaction) (s : State) : State :=
  match (s.ch c).state, reaction with
  | .unconfigured, _ => s
  | .disabled, _ => s.completeReaction c
  | .calibrating, _ => ((s.modCh c Channel.clearCalibration).abortOp c).completeReaction c
  | .charging, .shortBrake => (s.abortOp c).startBrake c
  | .charging, _ => (s.abortOp c).completeReaction c
  | .running, .gatesOff => s.completeReaction c
  | .running, .shortBrake => s.startBrake c
  | .running, .rampStop => s.startRamp c .rampFault .faultStop
  | .parked, .shortBrake => s.startBrake c
  | .parked, _ => s.completeReaction c
  | .stopping .brake, .gatesOff => (s.abortOp c).completeReaction c
  | .stopping .brake, _ => s
  | .stopping _, .gatesOff => (s.abortOp c).completeReaction c
  | .stopping _, .shortBrake => (s.abortOp c).startBrake c
  | .stopping .rampHost, .rampStop => s.takeOverRamp c
  | .stopping .rampFault, .rampStop => s
  | .faulted, _ => s.completeReaction c

/-- A short brake ends (R67): BRAKE ends COMPLETED, the end reason is recorded, and the reaction completes. -/
def State.endBrake (c : ChannelId) (reason : BrakeEnd) (s : State) : State :=
  (s.modCh c (fun x => Channel.endOp .completed { x with stop := { x.stop with brakeEnd := reason } })).completeReaction c

/-- A ramp ends (R66): with cause HOST in DISABLED, with cause FAULT by completing its reaction. -/
def State.endRamp (c : ChannelId) (s : State) : State :=
  match (s.ch c).state with
  | .stopping .rampHost => s.enterDisabled c .completed
  | .stopping .rampFault => (s.modCh c (Channel.endOp .completed)).completeReaction c
  | _ => s

end Sys2Proof.Machine
end

