-- ==== Sys2Proof/Machine/FaultUnit.lean ====
section
/-! DEFINITION. The fault unit (Chapter 8): conditions of sources, raising, preemption, promotion, and the leaving of
entries. -/

namespace Sys2Proof.Machine

/-! ## Conditions (R139) -/

/-- An input is active while its filtered level is its active level (R172). -/
def Input.active (x : Input) : Bool := x.high != x.activeLow

/-- An input whose function is STO and whose set contains the channel (R174). -/
def Input.stoFor (x : Input) (c : ChannelId) : Bool :=
  match x.function with
  | .sto channels => channels.getLsbD c.val
  | _ => false

/-- The STO condition of a channel under given inputs (R174). -/
def stoHolds (inputs : Vector Input 8) (c : ChannelId) : Bool :=
  allInputs.any (fun i => inputs[i].active && inputs[i].stoFor c)

/-- The latest sample stands at or above U_on: the condition of DC_OVER (R139, R159). -/
def Bus.overHolds (b : Bus) : Bool :=
  match b.profile with
  | some p => decide (p.uOn ≤ b.latest)
  | none => false

/-- The entries of a record: the active source and the pending list together (R131). -/
def FaultRecord.entries (r : FaultRecord) : List Entry := r.active.toList ++ r.pending

/-- A source stands among the entries (R131, R133). -/
def FaultRecord.holds (r : FaultRecord) (e : Entry) : Bool := r.entries.any (fun x => x.same e)

/-- Whether the condition of an entry of channel `c` holds (R139). -/
def State.conditionHolds (s : State) (c : ChannelId) : Entry → Bool
  | .own .overcurrent => (s.ch c).sample.trip
  | .own .driver => (s.ch c).sample.driverAsserted
  | .own .sto => stoHolds s.inputs c
  | .own .dcOver => s.bus.overHolds
  | .own .encoder => false
  | .own .late => false
  | .own .dcUnder => s.bus.uvSet
  | .own .skew => (s.pair (pairOf c)).skewHolds
  | .own .powerLoss => s.bus.ride != .normal
  | .own .i2t => (s.ch c).ref.tripped
  | .own .linkLoss => false
  | .own .starved => (s.ch c).queue.starved
  | .partner cause _ _ => s.isCoupled c && (s.ch (mateOf c)).record.holds (.own cause)

/-! ## Promotion and removal -/

/-- Change a channel's fault record. -/
def State.modRecord (c : ChannelId) (f : FaultRecord → FaultRecord) (s : State) : State :=
  s.modCh c (fun x => { x with record := f x.record })

/-- The head of the pending list becomes active where the active slot is empty, and its reaction is commanded
(R138). -/
def State.promote (c : ChannelId) (s : State) : State :=
  match (s.ch c).record.active, (s.ch c).record.pending with
  | none, e :: rest =>
    (s.modRecord c (fun r => { r with active := some e, pending := rest })).react c (e.reaction (s.ch c).faults)
  | _, _ => s

/-- An entry is taken out of a record. -/
def FaultRecord.without (e : Entry) (r : FaultRecord) : FaultRecord :=
  if r.active = some e then { r with active := none } else { r with pending := r.pending.erase e }

/-- An entry leaves the record, with its FAULT_CLEARED event (R140, R146, R149). -/
def State.removeEntry (c : ChannelId) (e : Entry) (manner : Manner) (s : State) : State :=
  (s.modRecord c (FaultRecord.without e)).emit (.faultCleared c e manner (s.ch c).tb.period)

/-- What follows when entries have left: promotion (R138), then DISABLED for an empty record (R147). -/
def State.afterRemoval (c : ChannelId) (s : State) : State := (s.promote c).leaveFaultedIfEmpty c

/-- Entries whose condition ends at a sample of the DC link alone: DC_OVER, by R159. -/
def Entry.endsAtSample : Entry → Bool
  | .own .dcOver => true
  | _ => false

/-- An AUTO entry whose condition has ended and which leaves of its own accord at any event (R140). DC_OVER leaves at a
bus sample alone (R159; log 11). -/
def State.autoEnded (s : State) (c : ChannelId) (e : Entry) : Bool :=
  (e.endMode (s.ch c).faults == .auto) && !s.conditionHolds c e && !e.endsAtSample

/-- The same at the sample event that closes the over-voltage run, where DC_OVER leaves too (R140, R159). -/
def State.autoEndedAtSample (s : State) (c : ChannelId) (e : Entry) : Bool :=
  (e.endMode (s.ch c).faults == .auto) && !s.conditionHolds c e

/-- The entries of the group of `c`, those of each channel's own before the PARTNER entries (log 10). -/
def State.groupEntries (s : State) (c : ChannelId) : List (ChannelId × Entry) :=
  let all := (s.group c).flatMap (fun g => (s.ch g).record.entries.map (fun e => (g, e)))
  all.filter (fun p => !p.2.isPartner) ++ all.filter (fun p => p.2.isPartner)

/-- The next entry of the group of `c` that leaves, `ended` telling which entries do. -/
def State.nextEnded (ended : State → ChannelId → Entry → Bool) (c : ChannelId) (s : State) :
    Option (ChannelId × Entry) :=
  (s.groupEntries c).find? (fun p => ended s p.1 p.2)

/-- Entries leave with the manner AUTO until none is left to leave, at most `fuel` of them (R140). -/
def State.settleFrom (ended : State → ChannelId → Entry → Bool) (c : ChannelId) : Nat → State → State
  | 0, s => s
  | fuel + 1, s =>
    match s.nextEnded ended c with
    | none => s
    | some (g, e) => State.settleFrom ended c fuel ((s.removeEntry g e .auto).afterRemoval g)

/-- Every entry of the group of `c` that `ended` lets go leaves. Each leaving takes one entry away and none enters, so
as many turns as there are entries are enough. -/
def State.settleBy (ended : State → ChannelId → Entry → Bool) (c : ChannelId) (s : State) : State :=
  s.settleFrom ended c (s.groupEntries c).length

/-- Every AUTO entry of the group of `c` whose condition has ended leaves (R140). -/
def State.settle (c : ChannelId) (s : State) : State := s.settleBy State.autoEnded c

/-- The same for every channel, in ascending order: R151 and R194 order raises alone, and no rule orders what leaves
uncoupled channels in one event (R140, R175; DESIGN CHOICE, log 47). -/
def State.settleAll (s : State) : State := s.forEach allChannels State.settle

/-- The same at a sample event below U_on (R159), in ascending order too (R140; DESIGN CHOICE, log 47). -/
def State.settleSample (s : State) : State := s.forEach allChannels (State.settleBy State.autoEndedAtSample)

/-! ## Raising -/

/-- Bit of a source code in the seen set (R142, R150). -/
def seenBit (code : Nat) : BitVec 13 := 1#13 <<< (code - 1)

/-- The place of an entry that was just raised: after every pending entry of its own priority (R135). -/
def insertAfter (e : Entry) : List Entry → List Entry
  | [] => [e]
  | x :: xs => if x.priority ≤ e.priority then x :: insertAfter e xs else e :: x :: xs

/-- The place of a preempted entry: ahead of every pending entry of its own priority (R136). -/
def insertBefore (e : Entry) : List Entry → List Entry
  | [] => [e]
  | x :: xs => if x.priority < e.priority then x :: insertBefore e xs else e :: x :: xs

/-- The snapshot of the first-fault record (R143). -/
def Channel.snapshot (x : Channel) (e : Entry) : FirstFault :=
  { entry := e, period := x.tb.period, ia := x.sample.ia, ib := x.sample.ib, udc := x.pos.udc, omega := x.pos.omega,
    appliedIq := x.ref.appliedIq }

/-- Whether a source that enters becomes the active one (R135, R136). -/
def FaultRecord.takesOver (r : FaultRecord) (e : Entry) : Bool :=
  match r.active with
  | none => true
  | some a => decide (e.priority < a.priority)

/-- The record after a source has entered it: active, preempting, or pending (R135, R136). -/
def FaultRecord.enter (e : Entry) (r : FaultRecord) : FaultRecord :=
  match r.active with
  | none => { r with active := some e }
  | some a =>
    if e.priority < a.priority then { r with active := some e, pending := insertBefore a r.pending }
    else { r with pending := insertAfter e r.pending }

/-- A source that is not a warning enters the record (R135): the first-fault record is filled where the record was
empty (R143), the FAULT event is requested, and the reaction of a source that became active is commanded (R137). -/
def State.enterRecord (c : ChannelId) (e : Entry) (s : State) : State :=
  let x := s.ch c
  let first := if x.record.isEmpty then some (x.snapshot e) else x.record.first
  let t := s.modRecord c (fun r => { FaultRecord.enter e r with first := first })
  if x.record.takesOver e then
    (t.emit (.fault c e .active x.tb.period)).react c (e.reaction x.faults)
  else t.emit (.fault c e .pending x.tb.period)

/-- What became of a raise. -/
inductive RaiseResult where
  | ignored | warning | entered
  deriving DecidableEq, Repr

/-- How a raise is judged: not taken in UNCONFIGURED, stopped where the source stands in the record (R133), a warning
at or above the mask threshold (R134), else an entry (R135). -/
def Channel.judge (x : Channel) (e : Entry) : RaiseResult :=
  if !x.state.configured then .ignored
  else if x.record.holds e then .ignored
  else if x.faults.mask ≤ e.priority then .warning
  else .entered

/-- The source's code enters the seen set of a configured channel (R133, R142). -/
def State.markSeen (c : ChannelId) (e : Entry) (s : State) : State :=
  if (s.ch c).state.configured then s.modRecord c (fun r => { r with seen := r.seen ||| seenBit e.code }) else s

/-- One raise at one record, without what the pair coupler makes of it (R133 to R137). -/
def State.raiseOne (c : ChannelId) (e : Entry) (s : State) : State :=
  let t := s.markSeen c e
  match (s.ch c).judge e with
  | .ignored => t
  | .warning => t.emit (.fault c e .warning (s.ch c).tb.period)
  | .entered => t.enterRecord c e

/-- The PARTNER that an entry of channel `c` raises on the other channel, with the cause's reaction and end mode as
they stand on `c` (R126). -/
def Channel.partnerOf (x : Channel) (source : Source) : Entry :=
  .partner source (source.reaction x.faults.encoderBrakes) (source.endMode x.faults)

/-- A source is raised on a channel (R133), PARTNER on the other channel of a coupled pair where it entered the
record and is not SKEW (R126), and what leaves of its own accord because of it leaves (R140). An AUTO DC_OVER raised on
leaving UNCONFIGURED, while the run is open and the latest sample lies below a U_on loaded since, stays until the sample
that closes the run, and does not leave in the event that raised it (DEDUCED, log 11). Where the reaction of the raise
empties the queue and so ends the condition of an AUTO STARVED, the PARTNER is raised, with its reaction, before STARVED
leaves: no rule orders the two (DESIGN CHOICE, log 52). It leaves after the STATE event of the entry to FAULTED that
emptied the queue, on a channel that is not coupled too (DESIGN CHOICE, log 57). -/
def State.raise (c : ChannelId) (source : Source) (s : State) : State :=
  let t := s.raiseOne c (.own source)
  let u :=
    if s.isCoupled c && source != .skew && ((s.ch c).judge (.own source) == .entered) then
      t.raiseOne (mateOf c) ((s.ch c).partnerOf source)
    else t
  u.settle c

/-- A source is raised on several channels, each raise complete before the next (R151). -/
def State.raiseOn (cs : List ChannelId) (source : Source) (s : State) : State :=
  s.forEach cs (fun c t => t.raise c source)

/-! ## Entry to CHARGING under an under-voltage condition -/

/-- Channels enter CHARGING in one event, and DC_UNDER is raised on each while the under-voltage condition stays set
(R59, R161; order log 32). At a wake it is so raised within step 3 of the valley, before the thermal update and the
reference path: R161 has it in the event of the entry, and R3 puts off only what the queue and the thermal model raise
(DEDUCED, log 40). -/
def State.beginCharging (cs : List ChannelId) (s : State) : State :=
  let t := s.forEach cs State.enterCharging
  if t.bus.uvSet then t.raiseOn cs .dcUnder else t

/-! ## Clearing and emptying -/

/-- The entry that a query names first: the active source, else the head of the pending list (R150). -/
def FaultRecord.summary (r : FaultRecord) : Option Entry := r.active.or r.pending.head?

/-- The entries that CLEAR_FAULTS takes from a record: HELD with their condition ended, of the channel's own or
PARTNER as asked (R127, R146). -/
def State.clearable (s : State) (c : ChannelId) (partners : Bool) : List Entry :=
  (s.ch c).record.entries.filter (fun e =>
    (e.isPartner == partners) && (e.endMode (s.ch c).faults == .held) && !s.conditionHolds c e)

/-- Those entries leave, with the manner CLEARED (R146, step 1): the active source first, then the pending list in its
order; the spec orders them no further (DESIGN CHOICE, log 43). -/
def State.clearHeld (partners : Bool) (c : ChannelId) (s : State) : State :=
  (s.clearable c partners).foldl (fun t e => t.removeEntry c e .cleared) s

/-- AUTO PARTNER entries whose cause has left leave with them (R127, R140). -/
def State.clearAutoPartners (c : ChannelId) (s : State) : State :=
  ((s.ch c).record.entries.filter (fun e => e.isPartner && s.autoEnded c e)).foldl
    (fun t e => t.removeEntry c e .auto) s

/-- The seen set is cleared and the first-fault record emptied (R146, step 2). -/
def State.forgetSeen (c : ChannelId) (s : State) : State :=
  s.modRecord c (fun r => { r with seen := 0, first := none })

/-- CLEAR_FAULTS on the records of the group of `c` (R127, R146): own sources of each, then PARTNER entries against
what remains, then the seen sets, then promotion and DISABLED (order DEDUCED, log 33); own sources before PARTNER
entries on an uncoupled channel too (DESIGN CHOICE, log 43). At each of these stages the master's record of a coupled
pair is worked before the follower's: R127 and R146 order the channels nowhere (DESIGN CHOICE, log 50). -/
def State.clearFaults (c : ChannelId) (s : State) : State :=
  let g := s.group c
  let s1 := s.forEach g (State.clearHeld false)
  let s2 := s1.forEach g (State.clearHeld true)
  let s3 := s2.forEach g State.clearAutoPartners
  let s4 := s3.forEach g State.forgetSeen
  (s4.forEach g State.afterRemoval).settle c

/-- AUTO PARTNER entries leave at UNCOUPLE, with the manner UNCOUPLED (R128; order log 41). -/
def State.clearUncoupled (c : ChannelId) (s : State) : State :=
  ((s.ch c).record.entries.filter (fun e => e.isPartner && s.autoEnded c e)).foldl
    (fun t e => t.removeEntry c e .uncoupled) s

end Sys2Proof.Machine
end

