-- ==== Sys2Proof/Machine/BusMonitor.lean ====
section
/-! DEFINITION. The bus monitor (Chapter 9): DC-link samples, the chopper, the over-voltage and under-voltage checks,
the mains-fail line and ride-through. -/

namespace Sys2Proof.Machine

/-- The configured channels in ascending order (R151). -/
def State.configuredChannels (s : State) : List ChannelId := allChannels.filter (fun c => (s.ch c).state.configured)

/-- The channels in CHARGING, RUNNING, PARKED or STOPPING, in ascending order (R161). -/
def State.drivingChannels (s : State) : List ChannelId := allChannels.filter (fun c => (s.ch c).state.takes)

/-- The under-voltage level (R160). -/
def BusProfile.uUv (p : BusProfile) : Nat := p.udcNom * (40 + 3 * p.uvIndex) / 100

/-- A change of the bus monitor. -/
def State.modBus (f : Bus → Bus) (s : State) : State := { s with bus := f s.bus }

/-! ## The chopper -/

/-- The chopper is evaluated against the latest sample (R158). -/
def Bus.chop (p : BusProfile) (b : Bus) : Bus :=
  if p.uOn ≤ b.latest then
    { b with chopperOn := true, turnOns := if b.chopperOn then b.turnOns else satInc b.turnOns }
  else if b.latest ≤ p.uOff then { b with chopperOn := false }
  else b

/-! ## The voltage checks -/

/-- The over-voltage check of a sample (R159); below U_on the run closes and AUTO DC_OVER entries leave. -/
def State.checkOver (p : BusProfile) (s : State) : State :=
  if p.uOv ≤ s.bus.latest ∧ s.bus.ovOpen = false then
    (s.modBus (fun b => { b with ovOpen := true, ovCount := satInc b.ovCount })).raiseOn s.configuredChannels .dcOver
  else if s.bus.latest < p.uOn then (s.modBus (fun b => { b with ovOpen := false })).settleSample
  else s

/-- A sample stands on the side of U_uv that the debounce of the condition counts (R161). -/
def Bus.countsUv (p : BusProfile) (b : Bus) : Bool :=
  if b.uvSet then decide (p.uUv < b.latest) else decide (b.latest < p.uUv)

/-- The under-voltage check of a sample (R161). -/
def State.checkUnder (p : BusProfile) (s : State) : State :=
  if !s.bus.countsUv p then s.modBus (fun b => { b with uvDebounce := 0 })
  else if s.bus.uvDebounce + 1 < p.tUv then s.modBus (fun b => { b with uvDebounce := b.uvDebounce + 1 })
  else if s.bus.uvSet then (s.modBus (fun b => { b with uvSet := false, uvDebounce := 0 })).settleAll
  else
    (s.modBus (fun b => { b with uvSet := true, uvDebounce := 0, uvCount := satInc b.uvCount })).raiseOn
      s.drivingChannels .dcUnder

/-- A conversion of the DC-link voltage: 800 reference cycles after the one before, the 12-bit value multiplied by 8
(R153). -/
def State.latchSample (raw : BitVec 12) (s : State) : State :=
  let t := s.reach (s.bus.sampledAt + 10 * Config.cyclesPerUs)
  t.modBus (fun b => { b with latest := 8 * raw.toNat, sampledAt := t.now })

/-- A sample event: latest sample, then chopper, over-voltage and under-voltage while a profile is held (R153). All that
the over-voltage check raises or lets go is complete before the under-voltage check acts; R153 orders neither
(DESIGN CHOICE, log 48). -/
def State.busSample (raw : BitVec 12) (s : State) : State :=
  let t := s.latchSample raw
  match s.bus.profile with
  | none => t
  | some p => ((t.modBus (Bus.chop p)).checkOver p).checkUnder p

/-- DC_LINK_SAMPLE (R153). -/
def execDcLinkSample (raw : BitVec 12) (s : State) : Host.Outcome State Fault Refusal :=
  .next (s.live (State.busSample raw))

/-! ## Ride-through -/

/-- Entry into RIDE_THROUGH (R164). -/
def State.beginRide (p : BusProfile) (s : State) : State :=
  State.emit (.rideBegin s.bus.latest p.support)
    (s.modBus (fun b =>
      { b with
        ride := .rideThrough
        rideTimer := some (s.now + p.tRide * Config.cyclesPerMs)
        rideEnteredAt := s.now
        ridesBegun := satInc b.ridesBegun }))

/-- RIDE_THROUGH is entered from NORMAL where a bus profile is held and the mains-fail line stands asserted (R164). -/
def State.tryRide (s : State) : State :=
  match s.bus.profile with
  | none => s
  | some p => if s.bus.mainsAsserted ∧ s.bus.ride = .normal then s.beginRide p else s

/-- The return to NORMAL, with the RIDE_END event; in NORMAL nothing (R165). -/
def State.endRide (s : State) : State :=
  if s.bus.ride = .normal then s
  else
    State.emit (.rideEnd (s.bus.ride == .expired) (s.msSince s.bus.rideEnteredAt))
      (s.modBus (fun b => { b with ride := .normal, rideTimer := none }))

/-- Agreeing samples of the mains-fail line: twenty take a new filtered level (R162, R164, R165; DESIGN CHOICE, log 15).
The clock is not moved and no moment of the 1 µs samples is kept: the change falls at the
moment at which the clock stands, from which entry into the ride and its expiry count (DESIGN CHOICE, log 54). -/
def State.mainsLine (asserted : Bool) (agreeing : Nat) (s : State) : State :=
  if 20 ≤ agreeing ∧ s.bus.mainsAsserted ≠ asserted then
    let t := s.modBus (fun b => { b with mainsAsserted := asserted })
    if asserted then t.tryRide else t.endRide
  else s

/-- MAINS_FAIL_CHANGE (R162). -/
def execMainsFailChange (asserted : Bool) (agreeing : Nat) (s : State) : Host.Outcome State Fault Refusal :=
  .next (s.live (State.mainsLine asserted agreeing))

/-- The ride timer expires in RIDE_THROUGH: EXPIRED, and POWER_LOSS on every configured channel (R166). -/
def State.rideExpiry (s : State) : State :=
  match s.bus.rideTimer with
  | none => s
  | some moment =>
    if s.bus.ride = .rideThrough then
      ((s.reach moment).modBus (fun b =>
        { b with ride := .expired, rideTimer := none, ridesExpired := satInc b.ridesExpired })).raiseOn
          s.configuredChannels .powerLoss
    else s

/-- RIDE_TIMER_EXPIRY (R166). -/
def execRideTimerExpiry (s : State) : Host.Outcome State Fault Refusal := .next (s.live State.rideExpiry)

/-- A bus profile is accepted (R156): it replaces the one held, the chopper is evaluated, the debounce count returns
to 0, and a waiting mains failure begins a ride. The over-voltage run is kept, and an AUTO DC_OVER waits for the next
sample below the new U_on (R159; log 11). -/
def State.takeBusProfile (p : BusProfile) (s : State) : State :=
  (s.modBus (fun b => Bus.chop p { b with profile := some p, uvDebounce := 0 })).tryRide

end Sys2Proof.Machine
end

