-- ==== Sys2Proof/Machine/Inputs.lean ====
section
/-! DEFINITION. The input unit (Chapter 10): sampling and filtering, assertions and releases with the STO function,
notices, and a new configuration. -/

namespace Sys2Proof.Machine

/-- The active states of all eight inputs, bit i for input i (R176, R177). -/
def State.activeStates (s : State) : Nat := bitsToNat (allInputs.map (fun i => (s.input i).active))

/-- The configured channels on which the STO condition holds under `after` and did not under `before`, in ascending
order (R151, R174). -/
def State.stoBegins (s : State) (before after : Vector Input 8) : List ChannelId :=
  allChannels.filter (fun c => (s.ch c).state.configured && stoHolds after c && !stoHolds before c)

/-- The notice edge matches an assertion or a release (R176). -/
def NoticeEdge.wants (active : Bool) : NoticeEdge → Bool
  | .none => false
  | .assert => active
  | .release => !active
  | .both => true

/-- A filtered change of an input: the level is taken, the filter count returns to 0 and the change count rises
(R171). -/
def Input.change (high : Bool) (x : Input) : Input :=
  { x with high := high, filterCount := 0, changes := satInc x.changes }

/-- The INPUT event of a filtered change where the notice edge matches (R176). -/
def State.notice (i : InputId) (s : State) : State :=
  let x := s.input i
  if x.notice.wants x.active then s.emit (.input i x.high x.active s.activeStates x.changes) else s

/-- A filtered change: STO is raised where its condition begins to hold and ends where it ends, then the notice
(R171, R174, R175, R176; order log 29). -/
def State.filteredChange (i : InputId) (high : Bool) (s : State) : State :=
  let t := s.setInput i ((s.input i).change high)
  let u := t.raiseOn (t.stoBegins s.inputs t.inputs) .sto
  State.notice i (if (t.input i).active then u else u.settleAll)

/-- The filter of an input settles on a level; a level already held is no change (R171). Given as a command of its own it
moves neither the clock nor the moment of the last sample event (DESIGN CHOICE, log 54). -/
def State.inputLevel (i : InputId) (high : Bool) (s : State) : State :=
  if (s.input i).high = high then s else s.filteredChange i high

/-- INPUT_FILTERED_CHANGE (R171). -/
def execInputFilteredChange (i : InputId) (high : Bool) (s : State) : Host.Outcome State Fault Refusal :=
  .next (s.live (State.inputLevel i high))

/-- One sample of one input (R171). -/
def State.inputSample (levels : BitVec 8) (i : InputId) (s : State) : State :=
  let x := s.input i
  let high := levels.getLsbD i.val
  if high = x.high then s.setInput i { x with filterCount := 0 }
  else if x.filterLength ≤ x.filterCount + 1 then s.filteredChange i high
  else s.setInput i { x with filterCount := x.filterCount + 1 }

/-- A sample event of the eight inputs, 80 reference cycles after the one before (R171). Where several inputs change in
one event, their changes are taken in ascending input number: R171 lets either be taken first (DESIGN CHOICE,
log 44). -/
def State.inputEvent (levels : BitVec 8) (s : State) : State :=
  let t := s.reach (s.inputsSampledAt + Config.cyclesPerUs)
  allInputs.foldl (fun u i => u.inputSample levels i) { t with inputsSampledAt := t.now }

/-- INPUT_SAMPLE_EVENT (R171). -/
def execInputSampleEvent (levels : BitVec 8) (s : State) : Host.Outcome State Fault Refusal :=
  .next (s.live (State.inputEvent levels))

/-- A whole configuration of one input (R177). -/
structure InputRecord where
  input : InputId
  activeLow : Bool
  function : InputFunction
  filterLength : Nat
  notice : NoticeEdge
  deriving DecidableEq, Repr

/-- An input takes a configuration: level and change count stay, the filter count returns to 0 (R177). -/
def Input.configure (r : InputRecord) (x : Input) : Input :=
  { x with
    filterCount := 0
    activeLow := r.activeLow
    function := r.function
    filterLength := r.filterLength
    notice := r.notice }

/-- The inputs under a list of records (R177). -/
def configureAll (records : List InputRecord) (inputs : Vector Input 8) : Vector Input 8 :=
  records.foldl (fun v r => v.set r.input (Input.configure r v[r.input])) inputs

/-- A new configuration would end the STO condition of a configured channel (R177). -/
def State.endsSto (s : State) (after : Vector Input 8) : Bool :=
  allChannels.any (fun c => (s.ch c).state.configured && stoHolds s.inputs c && !stoHolds after c)

/-- An accepted CONFIGURE_INPUTS takes effect: the configuration, then STO where its condition begins to hold
(R177). -/
def State.takeInputs (records : List InputRecord) (s : State) : State :=
  let after := configureAll records s.inputs
  State.raiseOn (s.stoBegins s.inputs after) .sto { s with inputs := after }

end Sys2Proof.Machine
end

