-- ==== Sys2Proof/Machine/Operands.lean ====
section
/-! DEFINITION. The operand forms: what the payload bytes of telegrams name (12.6.3 to 12.6.5), with the values that
out-of-range fields are taken as (R8, R40, R54, R55, R102, R109, R116, R132, R155, R177, R190). -/

namespace Sys2Proof.Machine

/-! ## Channels and pairs -/

/-- The channel of a number (spec 00, 5.2). -/
def channelOf (n : Nat) : Option ChannelId := if h : n < 10 then some ⟨n, h⟩ else none

/-- The pair of a number (spec 00, 5.2). -/
def pairOfNumber (n : Nat) : Option PairId := if h : n < 5 then some ⟨n, h⟩ else none

/-- The input of a number (spec 10). -/
def inputOf (n : Nat) : Option InputId := if h : n < 8 then some ⟨n, h⟩ else none

/-! ## Setpoint entries (12.6.4) -/

/-- One entry of a SETPOINT payload: the channel number of its low four bits, and its record. -/
structure SetpointEntry where
  channel : Nat
  record : Setpoint
  deriving DecidableEq, Repr

/-- A signed field of an entry: -32768 is taken as -32767 (R79). -/
def entryField (b0 b1 : Byte) : Int := max (-32767) (of16s b0 b1)

/-- The entry that opens with these bytes. -/
def entryOf (h a0 a1 q0 q1 d0 d1 : Byte) (vff : Option Int) : SetpointEntry :=
  { channel := h.toNat % 16
    record := { applyAt := BitVec.ofNat 16 (of16 a0 a1), iq := entryField q0 q1, id := entryField d0 d1, vff := vff } }

/-- The whole entries of a payload, or none where it does not divide into whole entries (R183, 12.6.4). -/
def splitEntries : List Byte → Option (List SetpointEntry)
  | [] => some []
  | h :: a0 :: a1 :: q0 :: q1 :: d0 :: d1 :: rest =>
    if h.getLsbD 7 then
      match rest with
      | v0 :: v1 :: rest' =>
        (splitEntries rest').map (fun es => entryOf h a0 a1 q0 q1 d0 d1 (some (entryField v0 v1)) :: es)
      | _ => none
    else (splitEntries rest).map (fun es => entryOf h a0 a1 q0 q1 d0 d1 none :: es)
  | _ => none

/-- The entries of a SETPOINT payload, 1 to 24 of them; none for a malformed one (R183). -/
def setpointEntries (payload : List Byte) : Option (List SetpointEntry) :=
  match splitEntries payload with
  | none => none
  | some es => if es.isEmpty ∨ 24 < es.length then none else some es

/-! ## Profile blocks (12.6.5) -/

/-- The prescale (R8). -/
def prescaleOf (n : Nat) : Nat := if n ≤ 1 then 1 else if n = 2 then 2 else if n ≤ 4 then 4 else 8

/-- The half-duty bound of Cmin (R8). -/
def cminOf (cmin n : Nat) : Nat := min cmin (n / 2)

/-- TIMEBASE (R8). -/
def timebaseOf : List Byte → Option TimebaseValues
  | [p, n0, n1, m, dt, cm, td, b0, b1] =>
    let n := clampNat 500 8000 (of16 n0 n1)
    some
      { prescale := prescaleOf p.toNat, n := n, mode := if m = 0 then .half else .full, dt := dt.toNat,
        cmin := cminOf cm.toNat n, tdc := td.toNat, db := min 4095 (of16 b0 b1) }
  | _ => none

/-- SENSING (R10, R11, R190). -/
def sensingOf : List Byte → Option SensingValues
  | [a0, a1, b0, b1, t0, t1] =>
    some { offA := min 4095 (of16 a0 a1), offB := min 4095 (of16 b0 b1), itrip := clampNat 1 32767 (of16 t0 t1) }
  | _ => none

/-- LOOP (R40). -/
def loopOf : List Byte → Option LoopValues
  | [a0, a1, b0, b1, c0, c1, d0, d1, m0, m1] =>
    some
      { kpD := min 32767 (of16 a0 a1), kiD := min 32767 (of16 b0 b1), kpQ := min 32767 (of16 c0 c1),
        kiQ := min 32767 (of16 d0 d1), mlim := min 37837 (of16 m0 m1) }
  | _ => none

/-- ENCODER (R13, R16, R190). -/
def encoderOf : List Byte → Option EncoderValues
  | [c0, c1, c2, c3, pp, t0, t1, p0, p1, p2, p3, dir] =>
    some
      { cpr := clampNat 256 16777216 (of32 c0 c1 c2 c3), pp := clampNat 1 64 pp.toNat, thetaOff := of16 t0 t1,
        pos0 := word32 p0 p1 p2 p3, inverted := decide (dir = 1) }
  | _ => none

/-- LIMITS (R54). -/
def limitsOf : List Byte → Option LimitsValues
  | [i0, i1, d0, d1, c0, c1, r0, r1, hold, late, speed, t0, t1] =>
    some
      { ilim := min 32767 (of16 i0 i1), idLim := min 32767 (of16 d0 d1), icont := min 32767 (of16 c0 c1),
        rampSlope := clampNat 1 32767 (of16 r0 r1), holdLimit := clampNat 1 255 hold.toNat,
        lateLimit := clampNat 1 15 late.toNat, brakeSpeed := speed.toNat, brakeTime := clampNat 1 2000 (of16 t0 t1) }
  | _ => none

/-- THERMAL (R109). -/
def thermalOf : List Byte → Option ThermalValues
  | [w0, w1, w2, w3, c0, c1, c2, c3, t0, t1, t2, t3] =>
    some
      { awarn := max 1 (of32 w0 w1 w2 w3), aclear := max 1 (of32 c0 c1 c2 c3), atrip := max 1 (of32 t0 t1 t2 t3) }
  | _ => none

/-- The window records that follow the count (R101, R102). -/
def windowRecords : List Byte → Option (List Window)
  | [] => some []
  | f :: b0 :: b1 :: b2 :: b3 :: l0 :: l1 :: l2 :: l3 :: c0 :: c1 :: rest =>
    (windowRecords rest).map (fun ws =>
      { enabled := f.getLsbD 0, blockPos := f.getLsbD 1, blockNeg := f.getLsbD 2, capPresent := f.getLsbD 3,
        base := word32 b0 b1 b2 b3, limit := word32 l0 l1 l2 l3, cap := min 32767 (of16 c0 c1) } :: ws)
  | _ => none

/-- WINDOWS: at most four records, as many as the count says (R102). -/
def windowsOf : List Byte → Option (List Window)
  | [] => none
  | n :: rest =>
    match windowRecords rest with
    | none => none
    | some ws => if ws.length = n.toNat ∧ n.toNat ≤ 4 then some ws else none

/-- An end mode bit (R132). -/
def endModeOf (auto : Bool) : EndMode := if auto then .auto else .held

/-- FAULTS (R132). -/
def faultsOf : List Byte → Option FaultsValues
  | [m, e, r] =>
    some
      { mask := clampNat 2 5 m.toNat, dcOverEnd := endModeOf (e.getLsbD 0), dcUnderEnd := endModeOf (e.getLsbD 1),
        i2tEnd := endModeOf (e.getLsbD 2), starvedEnd := endModeOf (e.getLsbD 3), encoderBrakes := decide (r = 1) }
  | _ => none

/-- IDLE (R55). -/
def idleOf : List Byte → Option IdleValues
  | [p, e, t0, t1, h, st] =>
    some
      { parkAllowed := decide (p ≠ 0), parkExponent := min 15 e.toNat, tBoot := clampNat 50 5000 (of16 t0 t1),
        holdoff := max 1 h.toNat, tStale := max 1 st.toNat }
  | _ => none

/-- The blocks of a LOAD_PROFILE telegram, at most one of each type (R190). -/
structure Blocks where
  timebase : Option TimebaseValues
  sensing : Option SensingValues
  loop : Option LoopValues
  encoder : Option EncoderValues
  limits : Option LimitsValues
  thermal : Option ThermalValues
  windows : Option (List Window)
  faults : Option FaultsValues
  idle : Option IdleValues
  deriving DecidableEq, Repr

/-- No block. -/
def Blocks.none : Blocks :=
  { timebase := .none, sensing := .none, loop := .none, encoder := .none, limits := .none, thermal := .none,
    windows := .none, faults := .none, idle := .none }

/-- One block joins the others: none for a type not of 12.6.5, a type already present, or a body whose length is
wrong for its type (R190). -/
def Blocks.add (b : Blocks) (code : Nat) (body : List Byte) : Option Blocks :=
  match code with
  | 1 => if b.timebase.isSome then .none else (timebaseOf body).map (fun v => { b with timebase := some v })
  | 2 => if b.sensing.isSome then .none else (sensingOf body).map (fun v => { b with sensing := some v })
  | 3 => if b.loop.isSome then .none else (loopOf body).map (fun v => { b with loop := some v })
  | 4 => if b.encoder.isSome then .none else (encoderOf body).map (fun v => { b with encoder := some v })
  | 5 => if b.limits.isSome then .none else (limitsOf body).map (fun v => { b with limits := some v })
  | 6 => if b.thermal.isSome then .none else (thermalOf body).map (fun v => { b with thermal := some v })
  | 7 => if b.windows.isSome then .none else (windowsOf body).map (fun v => { b with windows := some v })
  | 8 => if b.faults.isSome then .none else (faultsOf body).map (fun v => { b with faults := some v })
  | 9 => if b.idle.isSome then .none else (idleOf body).map (fun v => { b with idle := some v })
  | _ => .none

/-- A payload cut into blocks of type and body, at most `fuel` of them; none where the headers do not tile it (R190). -/
def tileFrom : Nat → List Byte → Option (List (Nat × List Byte))
  | _, [] => some []
  | 0, _ => none
  | fuel + 1, t :: l :: rest =>
    if l.toNat ≤ rest.length then
      (tileFrom fuel (rest.drop l.toNat)).map (fun bs => (t.toNat, rest.take l.toNat) :: bs)
    else none
  | _ + 1, [_] => none

/-- A payload cut into blocks; each takes two bytes at least. -/
def tile (bytes : List Byte) : Option (List (Nat × List Byte)) := tileFrom bytes.length bytes

/-- The blocks of a tiled payload, or none where one of them is wrong (R190). -/
def blocksOf (tiles : List (Nat × List Byte)) : Option Blocks :=
  tiles.foldl (fun acc t => acc.bind (fun b => b.add t.1 t.2)) (some Blocks.none)

/-- The channel kind of a byte (12.6.3). -/
def kindOf (b : Byte) : Option ChannelKind := if b = 0 then some .axis else if b = 1 then some .spindle else none

/-- TIMEBASE, LOOP, ENCODER and LIMITS are all present (R57). -/
def Blocks.complete (b : Blocks) : Bool :=
  b.timebase.isSome && b.loop.isSome && b.encoder.isSome && b.limits.isSome

/-- A window reaches no lower than its base (R102). -/
def Window.ordered (w : Window) : Bool := decide (w.base.toInt ≤ w.limit.toInt)

/-- Aclear < Awarn ≤ Atrip (R109). -/
def ThermalValues.ordered (t : ThermalValues) : Bool := decide (t.aclear < t.awarn) && decide (t.awarn ≤ t.atrip)

/-- The last check of R190. -/
def Blocks.ordered (b : Blocks) : Bool :=
  (b.windows.getD []).all Window.ordered &&
    (match b.thermal with
      | .none => true
      | .some t => t.ordered)

/-! ## The bus profile and the coupling values -/

/-- A bus profile as carried by CONFIGURE_BUS, and its support channel byte (R155). -/
def busProfileOf : List Byte → Option (BusProfile × Nat)
  | [n0, n1, k, tuv, v0, v1, o0, o1, f0, f1, t0, t1, sup, s0, s1, g0, g1, i0, i1] =>
    some
      ({ udcNom := clampNat 1 32760 (of16 n0 n1), uvIndex := min 15 k.toNat, tUv := max 1 tuv.toNat,
         uOv := min 32760 (of16 v0 v1), uOn := min 32760 (of16 o0 o1), uOff := min 32760 (of16 f0 f1),
         tRide := clampNat 1 500 (of16 t0 t1), support := channelOf sup.toNat,
         uSupport := min 32760 (of16 s0 s1), kbus := min 32767 (of16 g0 g1), isupMax := min 32767 (of16 i0 i1) },
       sup.toNat)
  | _ => none

/-- U_off < U_on < U_ov (R156). -/
def BusProfile.ordered (p : BusProfile) : Bool := decide (p.uOff < p.uOn) && decide (p.uOn < p.uOv)

/-- The coupling values of a COUPLE request (R116). -/
structure CouplingValues where
  kskew : Nat
  corrMax : Nat
  skewLimit : Nat
  skewOffset : BitVec 32
  deriving DecidableEq, Repr

/-- COUPLE after the pair byte (R116). -/
def couplingOf : List Byte → Option CouplingValues
  | [k0, k1, c0, c1, l0, l1, l2, l3, o0, o1, o2, o3] =>
    some
      { kskew := min 32767 (of16 k0 k1), corrMax := min 32767 (of16 c0 c1),
        skewLimit := clampNat 1 2147483647 (of32 l0 l1 l2 l3), skewOffset := word32 o0 o1 o2 o3 }
  | _ => none

/-! ## Input records -/

/-- An input record as carried by CONFIGURE_INPUTS, before its checks (12.6.3). -/
structure RawInput where
  input : Nat
  polarity : Nat
  function : Nat
  assignment : Nat
  filterLength : Nat
  notice : Nat
  deriving DecidableEq, Repr

/-- The records of a payload; none where it is not a multiple of 7 bytes long. -/
def inputRecords : List Byte → Option (List RawInput)
  | [] => some []
  | i :: p :: f :: a0 :: a1 :: n :: e :: rest =>
    (inputRecords rest).map (fun rs =>
      { input := i.toNat, polarity := p.toNat, function := f.toNat, assignment := of16 a0 a1,
        filterLength := n.toNat, notice := e.toNat } :: rs)
  | _ => none

/-- Every input number is 0 to 7, and none is named twice (R177). -/
def inputsNamed (rs : List RawInput) : Bool :=
  rs.all (fun r => decide (r.input ≤ 7)) && decide ((rs.map RawInput.input).Nodup)

/-- Function, polarity and notice edge are values of R172, R173 and R176 (R177). -/
def RawInput.valid (r : RawInput) : Bool :=
  decide (r.function ≤ 3) && decide (r.polarity ≤ 1) && decide (r.notice ≤ 3)

/-- The assignment names channels 0 to 9 only (R177). -/
def RawInput.channelsExist (r : RawInput) : Bool :=
  match r.function with
  | 1 => decide (r.assignment ≤ 9)
  | 2 => decide (r.assignment ≤ 9)
  | 3 => decide (r.assignment < 1024)
  | _ => true

/-- The function with its assignment (12.6.3). -/
def RawInput.functionOf (r : RawInput) : InputFunction :=
  match r.function with
  | 1 => .limitPos (Fin.ofNat 10 r.assignment)
  | 2 => .limitNeg (Fin.ofNat 10 r.assignment)
  | 3 => .sto (BitVec.ofNat 10 r.assignment)
  | _ => .general

/-- The notice edge (12.6.3). -/
def noticeOf (n : Nat) : NoticeEdge :=
  match n with
  | 1 => .assert
  | 2 => .release
  | 3 => .both
  | _ => .none

/-- A checked record (R177): F of 0 is taken as 1, above 16 as 16. -/
def RawInput.toRecord (r : RawInput) : InputRecord :=
  { input := Fin.ofNat 8 r.input, activeLow := decide (r.polarity = 1), function := r.functionOf,
    filterLength := clampNat 1 16 r.filterLength, notice := noticeOf r.notice }

end Sys2Proof.Machine
end

