-- ==== Sys2Proof/Machine/Resets.lean ====
section
/-! DEFINITION. Device resets (R196) and CHANNEL_RESET's effect (R77), with the meanings of the four reset commands. -/

namespace Sys2Proof.Machine

/-- Every block takes its reset values (R17, R52, R78, R94, R114, R115, R152, R170, R178, R188, R196). The model's own
fields stay: the waiting commands, the clock and the free index (log 2, 30, 35). -/
def State.deviceReset (cause : ResetCause) (s : State) : State :=
  { State.reset with
    pending := s.pending
    now := s.now
    free := s.free
    resetCause := cause
    resetAt := s.now
    bus := { Bus.reset with sampledAt := s.now }
    inputsSampledAt := s.now }

/-- The end of a device reset: RESET_DONE is the first telegram to enter the empty transmit queue (R196). -/
def State.resetDone (s : State) : State := s.emit (.resetDone s.resetCause)

/-- A device reset that ends at once (R196). -/
def State.wholeReset (cause : ResetCause) (s : State) : State := (s.deviceReset cause).resetDone

/-- A device reset takes effect, and the reset line holds the part at its reset values (R196). -/
def State.heldReset (cause : ResetCause) (s : State) : State := { s.deviceReset cause with resetHeld := true }

/-- POWER_ON (R196): the reset ends when the part is ready, with the reset line released. Under an asserted line it
takes effect, and ends at the line's release. -/
def execPowerOn (s : State) : Host.Outcome State Fault Refusal :=
  .next (if s.resetHeld then s.heldReset .powerOn else s.wholeReset .powerOn)

/-- RESET_LINE_ASSERT (R196): the part is held at its reset values. A line that is asserted already cannot be asserted,
and the command changes nothing (DESIGN CHOICE, log 25). -/
def execResetLineAssert (s : State) : Host.Outcome State Fault Refusal :=
  .next (if s.resetHeld then s else s.heldReset .resetLine)

/-- RESET_LINE_RELEASE (R196): the reset ends, with the cause held since it took effect; a release of a line that is not
asserted changes nothing (DESIGN CHOICE, log 25). -/
def execResetLineRelease (s : State) : Host.Outcome State Fault Refusal :=
  .next (if s.resetHeld then s.wholeReset s.resetCause else s)

/-- The moment at which the last byte on the line has left (R179). -/
def Sending.endsAt (w : Sending) : Nat := w.startedAt + w.bytes.length * Config.cyclesPerByte

/-- An awaited DEVICE_RESET takes effect when the last byte of its reply has left (R184, R196). With none awaited, or
while its reply is not the telegram on the line, nothing happens (log 22). -/
def State.takeReset (s : State) : State :=
  match s.report.sending with
  | none => s
  | some w =>
    if s.resetAwaited && w.telegram.endsReset then (s.reach w.endsAt).wholeReset .resetRequest else s

/-- DEVICE_RESET_TAKES_EFFECT (R196). -/
def execDeviceResetTakesEffect (s : State) : Host.Outcome State Fault Refusal := .next (s.live State.takeReset)

/-- A channel after CHANNEL_RESET (R17, R18, R39, R52, R77, R78, R95, R114, R152, R154, R192): it keeps the position
count, the decoder's previous samples, the latched positions, the gate-driver level and the telemetry divisor; its
outputs are turned off. -/
def Channel.channelReset (x : Channel) : Channel :=
  let off := x.commandGate .off
  { Channel.reset with
    tb := { Timebase.reset with phaseA := off.tb.phaseA, phaseB := off.tb.phaseB, phaseC := off.tb.phaseC }
    sample := { Sample.reset with driverAsserted := x.sample.driverAsserted }
    pos := { Position.reset with
      count := x.pos.count
      tracks := x.pos.tracks
      latched := x.pos.latched
      previous := x.pos.previous }
    divisor := x.divisor }

/-- A computation in progress for a reset channel is discarded uncounted (R46, R77). -/
def Computation.ofReset (c : ChannelId) (k : Computation) : Computation :=
  if k.request.channel = c then { k with left := true, wasReset := true } else k

/-- The bus monitor forgets a support channel that is reset (R156, R170). -/
def Bus.forget (c : ChannelId) (b : Bus) : Bus :=
  match b.profile with
  | none => b
  | some p =>
    if p.support = some c then { b with profile := some { p with support := none }, supportCurrent := 0 } else b

/-- The effect of CHANNEL_RESET (R77); its STATE event carries the period number held before, and is requested from
UNCONFIGURED too (DEDUCED, log 12). -/
def State.resetChannel (c : ChannelId) (s : State) : State :=
  let x := s.ch c
  let t := s.setCh c x.channelReset
  State.emit (.state c x.state .unconfigured x.tb.period)
    { t with engine := t.engine.map (Computation.ofReset c), bus := t.bus.forget c }

end Sys2Proof.Machine
end

