-- ==== Sys2Proof/Machine/Setpoints.lean ====
section
/-! DEFINITION. The setpoint queues: arrival (R82 to R85), taking at a valley (R86 to R89) and flushing (R91). -/

namespace Sys2Proof.Machine

/-- The distance of a period number from the current one (R80, R84). -/
def distance (applyAt period : BitVec 16) : Nat := (applyAt - period).toNat

/-- A record is late: its period is in progress or lies before it (R84). -/
def isLate (applyAt period : BitVec 16) : Bool :=
  decide (distance applyAt period = 0) || decide (32768 ≤ distance applyAt period)

/-- The records that an arriving record leaves in the queue: those of earlier periods (R85). -/
def SetpointQueue.earlier (q : SetpointQueue) (period applyAt : BitVec 16) : List Setpoint :=
  q.records.filter (fun x => decide (distance x.applyAt period < distance applyAt period))

/-- A record of R84 and R85 arrives: late, refused by a full queue, or appended after the rewrite. -/
def SetpointQueue.arrive (period : BitVec 16) (r : Setpoint) (q : SetpointQueue) : SetpointQueue :=
  if isLate r.applyAt period then { q with late := satInc q.late }
  else if 16 ≤ (q.earlier period r.applyAt).length then { q with refusedFull := satInc q.refusedFull }
  else
    { q with
      records := q.earlier period r.applyAt ++ [r]
      revised := min 65535 (q.revised + (q.records.length - (q.earlier period r.applyAt).length)) }

/-- A record arrives for a channel: refused for a follower, dropped in a state that takes none, else R84 (R83). -/
def State.arrive (c : ChannelId) (r : Setpoint) (s : State) : State :=
  s.modCh c (fun x =>
    { x with queue :=
      if s.isFollower c then { x.queue with refusedCoupled := satInc x.queue.refusedCoupled }
      else if !x.state.takes then { x.queue with dropped := satInc x.queue.dropped }
      else x.queue.arrive x.tb.period r })

/-- The record whose period begins: the head, where its apply-at is the period number (R86). -/
def SetpointQueue.due (q : SetpointQueue) (period : BitVec 16) : Option Setpoint :=
  match q.records with
  | [] => none
  | r :: _ => if r.applyAt = period then some r else none

/-- The head is taken and the starvation run ends (R86, R89). -/
def SetpointQueue.take (r : Setpoint) (q : SetpointQueue) : SetpointQueue :=
  { q with
    records := q.records.tail
    baseId := r.id
    baseIq := r.iq
    periodVff := r.vff.getD 0
    taken := satInc q.taken
    starvation := 0
    starved := false }

/-- No record is taken: the reference is held, and outside STOPPING the starvation run goes on (R86, R88). -/
def SetpointQueue.hold (counts : Bool) (holdLimit : Nat) (q : SetpointQueue) : SetpointQueue :=
  if counts then
    { q with
      periodVff := 0
      starvation := satInc q.starvation
      starved := q.starved || decide (holdLimit ≤ satInc q.starvation) }
  else { q with periodVff := 0 }

/-- The record that the queue of a channel takes at a valley, if any (R86). -/
def Channel.dueRecord (x : Channel) : Option Setpoint := if x.state.takes then x.queue.due x.tb.period else none

/-- What a channel's queue does at a valley (R86, R88, R89). -/
def Channel.takeSetpoint (x : Channel) : Channel :=
  match x.dueRecord with
  | some r => { x with queue := x.queue.take r }
  | none => { x with queue := x.queue.hold x.state.isReference x.limits.holdLimit }

/-- Every record leaves the queue; the reference and the starvation run stay (R91). -/
def Channel.flush (x : Channel) : Channel := { x with queue := { x.queue with records := [] } }

end Sys2Proof.Machine
end

