-- ==== Sys2Proof/Machine/LinkReceiver.lean ====
section
/-! DEFINITION. The control link (Chapter 11): the receiver, routing, the command queue's entry, the watchdog and the
transmitter. -/

namespace Sys2Proof.Machine

/-- A change of the link receiver. -/
def State.modLink (f : Link → Link) (s : State) : State := { s with link := f s.link }

/-- The receiver enters HUNT. -/
def State.hunt (s : State) : State := s.modLink (fun k => { k with receiver := .hunt })

/-! ## The watchdog -/

/-- A good telegram restarts the watchdog, but not from OFF (R185). -/
def Link.restartWatchdog (now : Nat) (k : Link) : Link :=
  match k.watchdog with
  | .off => k
  | .running _ => { k with watchdog := .running (now + k.tLink * Config.cyclesPerMs) }
  | .expired => { k with watchdog := .running (now + k.tLink * Config.cyclesPerMs) }

/-- T_link is stored and the watchdog put in OFF or started (R185). -/
def State.setTLink (tLink : Nat) (s : State) : State :=
  s.modLink (fun k =>
    { k with
      tLink := tLink
      watchdog := if tLink = 0 then .off else .running (s.now + tLink * Config.cyclesPerMs) })

/-- The watchdog expires in RUNNING: EXPIRED, and LINK_LOSS on every configured channel (R185). -/
def State.watchdogExpiry (s : State) : State :=
  match s.link.watchdog with
  | .running moment =>
    ((((s.reach moment).modLink (fun k => { k with watchdog := .expired })).count (fun n =>
      { n with watchdogExpiries := satInc n.watchdogExpiries }))).raiseOn
        (allChannels.filter (fun c => (s.ch c).state.configured)) .linkLoss
  | _ => s

/-- LINK_WATCHDOG_EXPIRY (R185). -/
def execLinkWatchdogExpiry (s : State) : Host.Outcome State Fault Refusal := .next (s.live State.watchdogExpiry)

/-! ## Routing (R183, R184) -/

/-- One entry of a SETPOINT telegram arrives, or is counted for a channel above 9 (R82, R183). -/
def State.arriveEntry (s : State) (e : SetpointEntry) : State :=
  match channelOf e.channel with
  | none => s.count (fun n => { n with badChannel := satInc n.badChannel })
  | some c => s.arrive c e.record

/-- A SETPOINT payload: its entries act in order, or it is malformed (R82, R183). -/
def State.routeSetpoint (payload : List Byte) (s : State) : State :=
  match setpointEntries payload with
  | none => s.count (fun n => { n with malformed := satInc n.malformed })
  | some es => es.foldl State.arriveEntry s

/-- A request meets a full command queue: BUSY, its reply lost where the transmit queue is full (R184, R187). -/
def State.refuseBusy (r : Request) (s : State) : State :=
  let t := s.count (fun n => { n with busy := satInc n.busy })
  if t.report.full then t.count (fun n => { n with lostBusy := satInc n.lostBusy })
  else t.refuse r.kind r.tag .busy

/-- A request enters the command queue, which holds 4 (R184). -/
def State.routeRequest (r : Request) (s : State) : State :=
  if s.commands.length < 4 then { s with commands := s.commands ++ [r] } else s.refuseBusy r

/-- A good telegram completes: counted, the watchdog restarted, routed by its kind; the receiver is in HUNT (R181, R183;
as a row of its own it stands for the whole telegram: DESIGN CHOICE, log 20). -/
def State.completeTelegram (kind tag : Byte) (payload : List Byte) (s : State) : State :=
  let t := (s.hunt.count (fun n => { n with good := satInc n.good })).modLink (Link.restartWatchdog s.now)
  if kind = setpointKind then t.routeSetpoint payload
  else t.routeRequest { kind := kind, tag := tag, payload := payload }

/-- SETPOINT (R82, R183). -/
def execSetpoint (tag : Byte) (payload : List Byte) (s : State) : Host.Outcome State Fault Refusal :=
  .next (s.live (State.completeTelegram setpointKind tag payload))

/-- REQUEST_TELEGRAM (R183, R184). -/
def execRequestTelegram (kind tag : Byte) (payload : List Byte) (s : State) : Host.Outcome State Fault Refusal :=
  .next (s.live (State.completeTelegram kind tag payload))

/-! ## Errors (R182) -/

/-- A telegram whose CRC does not match is discarded and counted (R181, R182). -/
def State.badCrc (s : State) : State := s.hunt.count (fun n => { n with crc := satInc n.crc })

/-- CRC_ERROR (R181, R182). -/
def execCrcError (s : State) : Host.Outcome State Fault Refusal := .next (s.live State.badCrc)

/-- A length byte above 248 ends the telegram (R182). -/
def State.badLength (s : State) : State := s.hunt.count (fun n => { n with length := satInc n.length })

/-- LENGTH_ERROR (R182); a length of 248 or less is no error. -/
def execLengthError (length : Byte) (s : State) : Host.Outcome State Fault Refusal :=
  .next (if maxPayload < length.toNat then s.live State.badLength else s)

/-- The gap timer expires, 160 reference cycles after the last byte; in HUNT it is stopped (R182; log 20). -/
def State.gapExpiry (s : State) : State :=
  if s.link.receiver = .hunt then s
  else
    (s.reach (s.link.lastByteAt.getD s.now + 2 * Config.cyclesPerUs)).hunt.count (fun n =>
      { n with gap := satInc n.gap })

/-- GAP_ERROR (R182). -/
def execGapError (s : State) : Host.Outcome State Fault Refusal := .next (s.live State.gapExpiry)

/-- The moment at which the next byte arrives: now, or, where that is later, the earliest moment R179 allows. The next
start bit may begin at once at the arrival of the byte before, so that moment comes nine and a half bit times, from the
beginning of a start bit to the middle of its stop bit, after that arrival (the clock: log 2). -/
def State.arrivalAt (s : State) : Nat :=
  match s.link.lastByteAt with
  | none => s.now
  | some moment => max s.now (moment + Config.cyclesToArrival)

/-- The start bit of the next byte began before the last reset ended (R182). -/
def State.straddlesReset (s : State) : Bool := decide (s.arrivalAt < s.resetAt + Config.cyclesToArrival)

/-- A byte arrives on the inbound line: the clock reaches its arrival, which is kept (R179). -/
def State.byteEnds (s : State) : State :=
  { s with now := s.arrivalAt, link := { s.link with lastByteAt := some s.arrivalAt } }

/-- A byte ends and acts, but for one whose start bit began before the reset ended, which is not taken (R182). -/
def State.onByte (act : State → State) (s : State) : State :=
  if s.straddlesReset then s.byteEnds else act s.byteEnds

/-- A byte with a framing fault ends the telegram; it is counted in HUNT too (R182). -/
def State.countFraming (s : State) : State := s.hunt.count (fun n => { n with framing := satInc n.framing })

/-- A byte arrives with a framing fault (R179, R182). -/
def State.badFraming (s : State) : State := s.onByte State.countFraming

/-- FRAMING_ERROR (R182). -/
def execFramingError (s : State) : Host.Outcome State Fault Refusal := .next (s.live State.badFraming)

/-! ## Bytes (R181) -/

/-- The receiver takes a state, and a covered byte enters the CRC register (R180, R181). -/
def State.cover (b : Byte) (next : Receiver) (s : State) : State :=
  s.modLink (fun k => { k with receiver := next, crc := crcByte k.crc b })

/-- The receiver takes a state; the byte enters no CRC. -/
def State.await (next : Receiver) (s : State) : State := s.modLink (fun k => { k with receiver := next })

/-- A new telegram is begun (R181). -/
def State.beginTelegram (s : State) : State :=
  s.modLink (fun k => { k with receiver := .headerLength, crc := 0xFFFF#16 })

/-- After a payload byte: BODY until all are held, then CHECK (R181). -/
def bodyNext (length : Nat) (kind tag : Byte) (payload : List Byte) : Receiver :=
  if payload.length < length then .body length kind tag payload else .check kind tag payload

/-- The second CRC byte: the telegram is judged (R181). -/
def State.judgeTelegram (kind tag : Byte) (payload : List Byte) (received : BitVec 16) (s : State) : State :=
  if s.link.crc = received then s.completeTelegram kind tag payload else s.badCrc

/-- A byte is taken according to the receiver's state (R181). -/
def State.takeByte (b : Byte) (s : State) : State :=
  match s.link.receiver with
  | .hunt => if b = 0xA5#8 then s.await .sync2 else s
  | .sync2 => if b = 0x3C#8 then s.beginTelegram else if b = 0xA5#8 then s else s.hunt
  | .headerLength => if maxPayload < b.toNat then s.badLength else s.cover b (.headerKind b.toNat)
  | .headerKind length => s.cover b (.headerTag length b)
  | .headerTag length kind => s.cover b (bodyNext length kind b [])
  | .body length kind tag payload => s.cover b (bodyNext length kind tag (payload ++ [b]))
  | .check kind tag payload => s.await (.checkHigh kind tag payload b)
  | .checkHigh kind tag payload low => s.judgeTelegram kind tag payload (b ++ low)

/-- A byte arrives (R179, R181, R182). -/
def State.byteArrives (b : Byte) (s : State) : State := s.onByte (State.takeByte b)

/-- BYTE_ARRIVAL (R181). -/
def execByteArrival (b : Byte) (s : State) : Host.Outcome State Fault Refusal := .next (s.live (State.byteArrives b))

/-! ## The transmitter (R186) -/

/-- The last byte of the telegram on the line leaves: its entry is freed and the next begins, or a DEVICE_RESET takes
effect with its reply (R186, R196; log 22). The next telegram is chosen in this one command, before the dispatcher may
execute a request that waited behind the full queue: R184 and R186 order the two nowhere (DESIGN CHOICE, log 55). -/
def State.transmitEnd (s : State) : State :=
  match s.report.sending with
  | none => s
  | some w =>
    if w.telegram.endsReset && s.resetAwaited then s.takeReset
    else
      let t := s.reach w.endsAt
      { t with report := t.report.advance t.now }

/-- TRANSMIT_END (R186). -/
def execTransmitEnd (s : State) : Host.Outcome State Fault Refusal := .next (s.live State.transmitEnd)

end Sys2Proof.Machine
end

