-- ==== Sys2Proof/Machine/Engine.lean ====
section
/-! DEFINITION. The loop engine: the current loop computation (Chapter 2), its queue, grants and completions
(Chapter 3), and the meaning of ENGINE_COMPLETION. -/

namespace Sys2Proof.Machine

/-! ## The sine table (R21) -/

/-- Entries 0 to 31 of the sine table (R21). -/
def sineQuarter0 : List Int :=
  [0, 201, 402, 603, 804, 1005, 1206, 1407, 1608, 1809, 2009, 2210, 2410, 2611, 2811, 3012,
   3212, 3412, 3612, 3811, 4011, 4210, 4410, 4609, 4808, 5007, 5205, 5404, 5602, 5800, 5998, 6195]

/-- Entries 32 to 63 of the sine table (R21). -/
def sineQuarter1 : List Int :=
  [6393, 6590, 6786, 6983, 7179, 7375, 7571, 7767, 7962, 8157, 8351, 8545, 8739, 8933, 9126, 9319,
   9512, 9704, 9896, 10087, 10278, 10469, 10659, 10849, 11039, 11228, 11417, 11605, 11793, 11980, 12167, 12353]

/-- Entries 64 to 95 of the sine table (R21). -/
def sineQuarter2 : List Int :=
  [12539, 12725, 12910, 13094, 13279, 13462, 13645, 13828, 14010, 14191, 14372, 14553, 14732, 14912, 15090, 15269,
   15446, 15623, 15800, 15976, 16151, 16325, 16499, 16673, 16846, 17018, 17189, 17360, 17530, 17700, 17869, 18037]

/-- Entries 96 to 127 of the sine table (R21). -/
def sineQuarter3 : List Int :=
  [18204, 18371, 18537, 18703, 18868, 19032, 19195, 19357, 19519, 19680, 19841, 20000, 20159, 20317, 20475, 20631,
   20787, 20942, 21096, 21250, 21403, 21554, 21705, 21856, 22005, 22154, 22301, 22448, 22594, 22739, 22884, 23027]

/-- Entries 128 to 159 of the sine table (R21). -/
def sineQuarter4 : List Int :=
  [23170, 23311, 23452, 23592, 23731, 23870, 24007, 24143, 24279, 24413, 24547, 24680, 24811, 24942, 25072, 25201,
   25329, 25456, 25582, 25708, 25832, 25955, 26077, 26198, 26319, 26438, 26556, 26674, 26790, 26905, 27019, 27133]

/-- Entries 160 to 191 of the sine table (R21). -/
def sineQuarter5 : List Int :=
  [27245, 27356, 27466, 27575, 27683, 27790, 27896, 28001, 28105, 28208, 28310, 28411, 28510, 28609, 28706, 28803,
   28898, 28992, 29085, 29177, 29268, 29358, 29447, 29534, 29621, 29706, 29791, 29874, 29956, 30037, 30117, 30195]

/-- Entries 192 to 223 of the sine table (R21). -/
def sineQuarter6 : List Int :=
  [30273, 30349, 30424, 30498, 30571, 30643, 30714, 30783, 30852, 30919, 30985, 31050, 31113, 31176, 31237, 31297,
   31356, 31414, 31470, 31526, 31580, 31633, 31685, 31736, 31785, 31833, 31880, 31926, 31971, 32014, 32057, 32098]

/-- Entries 224 to 255 of the sine table (R21). -/
def sineQuarter7 : List Int :=
  [32137, 32176, 32213, 32250, 32285, 32318, 32351, 32382, 32412, 32441, 32469, 32495, 32521, 32545, 32567, 32589,
   32609, 32628, 32646, 32663, 32678, 32692, 32705, 32717, 32728, 32737, 32745, 32752, 32757, 32761, 32765, 32766]

/-- Entries 256 to 256 of the sine table (R21). -/
def sineQuarter8 : List Int :=
  [32767]

/-- Entries 0 to 256 of the sine table: 32767·sin(2πk/1024) rounded to the nearest integer (R21). -/
def sineQuarter : List Int :=
  sineQuarter0 ++ sineQuarter1 ++ sineQuarter2 ++ sineQuarter3 ++ sineQuarter4 ++
    sineQuarter5 ++ sineQuarter6 ++ sineQuarter7 ++ sineQuarter8

/-- Entry k of the sine table, k in 0..1023, from the first quarter by the symmetries of R21. -/
def sine (k : Nat) : Int :=
  if k ≤ 256 then sineQuarter.getD k 0
  else if k ≤ 512 then sineQuarter.getD (512 - k) 0
  else if k ≤ 768 then -sineQuarter.getD (k - 512) 0
  else -sineQuarter.getD (1024 - k) 0

/-! ## The stages of a computation (R22 to R37) -/

/-- Measured rotor-frame currents: stages 1 to 3 (R22, R23, R24). -/
structure Measured where
  s : Int
  c : Int
  id : Int
  iq : Int
  deriving DecidableEq, Repr

/-- Stages 1 to 3. -/
def measure (r : EngineRequest) : Measured :=
  let k := r.theta / 64
  let s := sine k
  let c := sine ((k + 256) % 1024)
  let alpha := r.ia
  let beta := clampSym 32767 (halfUp 15 ((r.ia + 2 * r.ib) * 18919))
  { s := s, c := c
    id := clampSym 32767 (halfUp 15 (alpha * c + beta * s))
    iq := clampSym 32767 (halfUp 15 (-alpha * s + beta * c)) }

/-- The error of one axis (R25). -/
def loopError (reference measured : Int) : Int := clampSym 32767 (reference - measured)

/-- The proportional term of one axis (R26). -/
def proportional (kp : Nat) (e : Int) : Int := clampSym 32767 (halfUp 8 (kp * e))

/-- The limit of the integrators (R27). -/
def integratorLimit : Int := 2147418112

/-- The integrator candidate of one axis (R27). -/
def candidate (ki : Nat) (integrator e : Int) : Int := clampSym integratorLimit (integrator + ki * e)

/-- The integral output of a candidate (R27). -/
def integralOutput (candidate : Int) : Int := halfUp 16 candidate

/-- The effective DC-link value (R29). -/
def udcEff (udc : Nat) : Nat := max udc 64

/-- The circle radius (R29). -/
def vMax (udc mlim : Nat) : Nat := udcEff udc * mlim / 65536

/-- What the circle leaves to the q axis (R30). -/
def vqMax (vmax : Nat) (vd : Int) : Nat := isqrt (vmax ^ 2 - vd.natAbs ^ 2)

/-- The clamp flag of one axis (R30). -/
def clampFlag (bound : Nat) (u : Int) : Bool := decide (bound < u.natAbs)

/-- The anti-windup of one axis (R31): the integrator keeps its value where the axis is clamped and the error pushes
further into the clamp, and takes the candidate otherwise. -/
def antiWindup (bound : Nat) (u e integrator candidate : Int) : Int :=
  if clampFlag bound u && (decide (0 < e ∧ (bound : Int) < u) || decide (e < 0 ∧ u < -(bound : Int))) then integrator
  else candidate

/-- The centred phase voltages: stages 10 and 11 (R32, R33, R34). -/
def phaseVoltages (m : Measured) (vd vq : Int) : Int × Int × Int :=
  let alpha := halfUp 15 (vd * m.c - vq * m.s)
  let beta := halfUp 15 (vd * m.s + vq * m.c)
  let va := alpha
  let vb := halfUp 15 (-alpha * 16384 + beta * 28378)
  let vc := -va - vb
  let mid := (max va (max vb vc) + min va (min vb vc)) / 2
  (va - mid, vb - mid, vc - mid)

/-- The compare value of a centred phase voltage, before compensation (R35). -/
def rawDuty (n udcE : Nat) (v : Int) : Int := (n / 2 : Nat) + (2 * v * n + udcE) / (2 * udcE)

/-- The dead-time compensation of one phase (R36). -/
def compensation (tdc db : Nat) (current : Int) : Int :=
  if (db : Int) ≤ current ∧ 0 < current then tdc
  else if current ≤ -(db : Int) ∧ current < 0 then -(tdc : Int)
  else 0

/-- Stage 12 of one phase: duty, compensation, clamp to [Cmin, N - Cmin] (R35, R36, R37). -/
def duty (r : EngineRequest) (v current : Int) : Nat :=
  (clampTo r.cmin ((r.n : Int) - r.cmin) (rawDuty r.n (udcEff r.udc) v + compensation r.tdc r.db current)).toNat

/-- The result of a computation (R38). -/
structure LoopResult where
  compare : Compare
  intD : Int
  intQ : Int
  vd : Int
  vq : Int
  clampD : Bool
  clampQ : Bool
  deriving DecidableEq, Repr

/-- The unlimited voltage of the d axis: stages 4 to 7 (R25 to R28). -/
def unlimitedD (r : EngineRequest) (m : Measured) (intD : Int) : Int :=
  proportional r.loop.kpD (loopError r.idRef m.id) +
    integralOutput (candidate r.loop.kiD intD (loopError r.idRef m.id))

/-- The unlimited voltage of the q axis, with the feed-forward (R25 to R28). -/
def unlimitedQ (r : EngineRequest) (m : Measured) (intQ : Int) : Int :=
  proportional r.loop.kpQ (loopError r.iqRef m.iq) +
    integralOutput (candidate r.loop.kiQ intQ (loopError r.iqRef m.iq)) + r.vff

/-- The whole computation: stages 1 to 12 (R19 to R37). -/
def compute (r : EngineRequest) (intD intQ : Int) : LoopResult :=
  let m := measure r
  let ed := loopError r.idRef m.id
  let eq := loopError r.iqRef m.iq
  let ud := unlimitedD r m intD
  let uq := unlimitedQ r m intQ
  let vmax := vMax r.udc r.loop.mlim
  let vd := clampSym vmax ud
  let vqmax := vqMax vmax vd
  let vq := clampSym vqmax uq
  let v := phaseVoltages m vd vq
  { compare := { a := duty r v.1 r.ia, b := duty r v.2.1 r.ib, c := duty r v.2.2 r.ic }
    intD := antiWindup vmax ud ed intD (candidate r.loop.kiD intD ed)
    intQ := antiWindup vqmax uq eq intQ (candidate r.loop.kiQ intQ eq)
    vd := vd
    vq := vq
    clampD := clampFlag vmax ud
    clampQ := clampFlag vqmax uq }

/-! ## Requests, grants and completions -/

/-- The moment of the load point that follows a valley (R4, R42, R43). -/
def Channel.deadline (x : Channel) : Nat :=
  x.tb.periodStart +
    (match x.timebase.mode with
      | .half => x.timebase.n * x.timebase.prescale
      | .full => 2 * x.timebase.n * x.timebase.prescale)

/-- The request formed at a conversion completion (R19, R42). -/
def Channel.request (c : ChannelId) (x : Channel) : EngineRequest :=
  { channel := c, period := x.tb.period, deadline := x.deadline, ia := x.sample.ia, ib := x.sample.ib,
    ic := x.sample.ic, theta := x.pos.theta, position := x.pos.latched, udc := x.pos.udc, idRef := x.ref.appliedId,
    iqRef := x.ref.appliedIq, vff := x.ref.vff, loop := x.loop, n := x.timebase.n, cmin := x.timebase.cmin,
    tdc := x.timebase.tdc, db := x.timebase.db }

/-- A slot holds an expired request (R41). -/
def Slot.isExpired : Slot → Bool
  | .expired _ => true
  | _ => false

/-- A request enters its slot as WAITING, replacing an expired one, and marks the period (R42, R47). -/
def Channel.formRequest (c : ChannelId) (x : Channel) : Channel :=
  { x with eng :=
    { x.eng with
      slot := .waiting (x.request c)
      mark := some x.tb.period
      replaced := if x.eng.slot.isExpired then satInc x.eng.replaced else x.eng.replaced } }

/-- The waiting request of a channel (R43). -/
def State.waitingOf (s : State) (c : ChannelId) : Option EngineRequest :=
  match (s.ch c).eng.slot with
  | .waiting r => some r
  | _ => none

/-- The better of the best so far and one more channel's request: the nearer deadline, and the earlier channel on a
tie (R44). -/
def nearer (best : Option EngineRequest) (r : Option EngineRequest) : Option EngineRequest :=
  match best, r with
  | none, r => r
  | some b, none => some b
  | some b, some r => if r.deadline < b.deadline then some r else some b

/-- The WAITING request with the least remaining time, the lowest channel number on a tie (R44). -/
def State.nextRequest (s : State) : Option EngineRequest :=
  allChannels.foldl (fun best c => nearer best (s.waitingOf c)) none

/-- A free engine is granted to the next request, which leaves its slot; the integrators are read (R19, R44, R45). -/
def State.grant (s : State) : State :=
  match s.engine, s.nextRequest with
  | none, some r =>
    { s.modCh r.channel (fun x => { x with eng := { x.eng with slot := .empty } }) with
      engine := some
        { request := r, intD := (s.ch r.channel).loopState.intD, intQ := (s.ch r.channel).loopState.intQ,
          grantedAt := s.now, missed := false, left := false, wasReset := false } }
  | _, _ => s

/-- The result is staged only when the channel has computed without interruption and its load point is still to come
(R46). -/
def Computation.stages (k : Computation) : Bool := !k.missed && !k.left && !k.wasReset

/-- A staged result is written back (R38). -/
def Channel.stageResult (r : LoopResult) (x : Channel) : Channel :=
  { x with
    tb := { x.tb with staged := some r.compare }
    loopState :=
      { intD := r.intD, intQ := r.intQ, vd := r.vd, vq := r.vq, clampD := r.clampD, clampQ := r.clampQ,
        lastStaged := r.compare } }

/-- The result of a completed computation is staged, or discarded and counted unless its channel was reset (R38,
R46). -/
def Channel.finish (k : Computation) (x : Channel) : Channel :=
  if k.stages then x.stageResult (compute k.request k.intD k.intQ)
  else if k.wasReset then x
  else { x with eng := { x.eng with discarded := satInc x.eng.discarded } }

/-- The computation in progress completes and the engine is granted anew (R45, R46); a free engine has none to
complete. -/
def State.completeComputation (s : State) : State :=
  match s.engine with
  | none => s
  | some k =>
    let t := s.reach (k.grantedAt + Config.computationCycles)
    State.grant { t.modCh k.request.channel (Channel.finish k) with engine := none }

/-- ENGINE_COMPLETION (R46). -/
def execEngineCompletion (s : State) : Host.Outcome State Fault Refusal := .next (s.live State.completeComputation)

/-! ## The load point -/

/-- The staged set, where one is held, takes effect (R4); the outputs follow. -/
def Channel.load (x : Channel) : Channel :=
  match x.tb.staged with
  | none => x
  | some v => Channel.driveGates { x with tb := { x.tb with compare := v, staged := none } }

/-- A WAITING request becomes EXPIRED at its load point (R43). -/
def Slot.expire : Slot → Slot
  | .waiting r => .expired r
  | other => other

/-- The marked period is judged by whether a staged set was taken, and the mark removed (R48, R49). -/
def EngineSide.judge (taken : Bool) (e : EngineSide) : EngineSide :=
  match e.mark with
  | none => { e with slot := e.slot.expire }
  | some _ =>
    if taken then { e with slot := e.slot.expire, mark := none, consecutiveLate := 0 }
    else
      { e with
        slot := e.slot.expire
        mark := none
        consecutiveLate := min 15 (e.consecutiveLate + 1)
        latePeriods := satInc e.latePeriods }

/-- The load point is judged late and the consecutive late count stands at or above the late limit (R49). -/
def Channel.raisesLate (x : Channel) : Bool :=
  x.eng.mark.isSome && x.tb.staged.isNone &&
    decide (x.limits.lateLimit ≤ min 15 (x.eng.consecutiveLate + 1))

/-- The load point of a channel (R4, R43, R45, R48, R49). -/
def State.loadPoint (c : ChannelId) (s : State) : State :=
  let x := s.ch c
  let t := s.setCh c { x.load with eng := x.eng.judge x.tb.staged.isSome }
  let u :=
    { t with engine := t.engine.map (fun k => if k.request.channel = c then { k with missed := true } else k) }
  if x.raisesLate then u.raise c .late else u

end Sys2Proof.Machine
end

