-- ==== Sys2Proof/Machine/References.lean ====
section
/-! DEFINITION. The reference path: the five stages (R97 to R107), the pair coupler's difference and correction
(R119, R120) and the thermal model (R109 to R113). -/

namespace Sys2Proof.Machine

/-! ## Windows and blocking -/

/-- A window contains a position (R103). -/
def Window.contains (w : Window) (position : BitVec 32) : Bool :=
  w.enabled && decide (w.base.toInt ≤ position.toInt) && decide (position.toInt ≤ w.limit.toInt)

/-- The windows that contain the latched position. -/
def Channel.inside (x : Channel) : List Window := x.windows.filter (fun w => w.contains x.pos.latched)

/-- An active input blocks the positive direction of a channel (R104, R173). -/
def Input.blocksPos (i : Input) (c : ChannelId) : Bool := i.active && decide (i.function = .limitPos c)

/-- An active input blocks the negative direction of a channel (R104, R173). -/
def Input.blocksNeg (i : Input) (c : ChannelId) : Bool := i.active && decide (i.function = .limitNeg c)

/-- The positive direction is blocked (R104). -/
def State.posBlocked (s : State) (c : ChannelId) : Bool :=
  (s.ch c).inside.any Window.blockPos || allInputs.any (fun i => (s.input i).blocksPos c)

/-- The negative direction is blocked (R104). -/
def State.negBlocked (s : State) (c : ChannelId) : Bool :=
  (s.ch c).inside.any Window.blockNeg || allInputs.any (fun i => (s.input i).blocksNeg c)

/-- The smaller of a cap and a further one. -/
def smallerCap (best : Option Nat) (cap : Nat) : Option Nat :=
  match best with
  | none => some cap
  | some b => some (min b cap)

/-- The cap in force: the smallest of the containing windows that carry one (R105). -/
def Channel.capInForce (x : Channel) : Option Nat :=
  ((x.inside.filter Window.capPresent).map Window.cap).foldl smallerCap none

/-! ## The stages -/

/-- Whether stage 1 acts: the support channel, during ride-through, in a reference state (R99). -/
def State.overrides (s : State) (c : ChannelId) : Bool :=
  match s.bus.profile with
  | none => false
  | some p => decide (p.support = some c) && decide (s.bus.ride = .rideThrough) && (s.ch c).state.isReference

/-- The support current (R99). -/
def BusProfile.supportCurrent (p : BusProfile) (omega : Int) (udc : Nat) : Int :=
  -(Int.sign omega) * clampTo 0 p.isupMax (halfUp 8 (p.kbus * ((p.uSupport : Int) - udc)))

/-- The support current of a channel at this valley, 0 where no profile is held. -/
def State.supportOf (s : State) (c : ChannelId) : Int :=
  match s.bus.profile with
  | none => 0
  | some p => p.supportCurrent (s.ch c).pos.omega (s.ch c).pos.udc

/-- Whether stage 2 acts: a coupled pair, in a reference state or a ramp (R100). -/
def State.corrects (s : State) (c : ChannelId) : Bool :=
  s.isCoupled c && ((s.ch c).state.isReference || (s.ch c).state.ramps)

/-- The base reference (id, iq) of a channel and its feed-forward (R97). -/
def State.baseReference (s : State) (c : ChannelId) : Int × Int × Int :=
  let x := s.ch c
  if x.state.isReference then
    let q := (s.ch (s.leader c)).queue
    (q.baseId, q.baseIq, q.periodVff)
  else if x.state.ramps then (x.stop.rd, x.stop.rq, 0)
  else (0, 0, 0)

/-- iq after stage 2: the correction is taken from the master and given to the follower (R100, R120). -/
def correctIq (master : Bool) (corr iq : Int) : Int := clampSym 32767 (if master then iq - corr else iq + corr)

/-- iq after stage 3 (R104). -/
def blockIq (pos neg : Bool) (iq : Int) : Int :=
  let p := if pos then min iq 0 else iq
  if neg then max p 0 else p

/-- iq after stage 4 (R105). -/
def capIq (cap : Option Nat) (iq : Int) : Int :=
  match cap with
  | none => iq
  | some k => clampSym k iq

/-- The radius of the circle (R106). -/
def Channel.radius (x : Channel) : Nat := if x.ref.derate then x.limits.icont else x.limits.ilim

/-- id after stage 5 (R106). -/
def circleId (idLim radius : Nat) (id : Int) : Int := clampSym (min idLim radius : Nat) id

/-- iq after stage 5, beside the id already clamped (R106). -/
def circleIq (radius : Nat) (id iq : Int) : Int := clampSym (isqrt (radius ^ 2 - id.natAbs ^ 2)) iq

/-- The five stages form the applied references, the block flags and what the query reports (R98 to R107). The corrected
flag is set only where the correction is not 0 (DEDUCED, log 18). -/
def State.referencesOf (s : State) (c : ChannelId) : RefPath :=
  let x := s.ch c
  let base := s.baseReference c
  let acts := s.overrides c
  let iq1 := if acts then s.supportOf c else base.2.1
  let corr := (s.pair (pairOf c)).corr
  let iq2 := if s.corrects c then correctIq (isMaster c) corr iq1 else iq1
  let iq3 := blockIq (s.posBlocked c) (s.negBlocked c) iq2
  let iq4 := capIq x.capInForce iq3
  let id5 := circleId x.limits.idLim x.radius base.1
  let iq5 := circleIq x.radius id5 iq4
  { x.ref with
    baseId := base.1
    baseIq := base.2.1
    appliedId := id5
    appliedIq := iq5
    vff := if acts then 0 else base.2.2
    cap := x.capInForce
    containing := x.windows.map (fun w => w.contains x.pos.latched)
    flags :=
      { override := acts
        corrected := s.corrects c && decide (corr ≠ 0)
        posBlocked := s.posBlocked c
        negBlocked := s.negBlocked c
        capped := decide (iq4 ≠ iq3)
        circleLimited := decide (id5 ≠ base.1) || decide (iq5 ≠ iq4) } }

/-- The support channel named in the bus profile. -/
def Bus.support (b : Bus) : Option ChannelId := b.profile.bind BusProfile.support

/-- The reference path of a channel runs its stages at a valley; at a valley of the support channel the bus monitor
records the support current (R98, R168). -/
def State.formReferences (c : ChannelId) (s : State) : State :=
  let t := s.modCh c (fun x => { x with ref := s.referencesOf c })
  if s.bus.support = some c then
    { t with bus := { t.bus with supportCurrent := if s.overrides c then s.supportOf c else 0 } }
  else t

/-! ## The pair coupler -/

/-- The skew difference (R119). -/
def skewDifference (master follower offset : BitVec 32) : Int := clampSym 2147483647 (master - follower - offset).toInt

/-- The correction (R120). -/
def skewCorrection (kskew corrMax : Nat) (delta : Int) : Int := clampSym corrMax (halfUp 8 (kskew * delta))

/-- The coupler of a coupled pair forms the difference and the correction (R119, R120). -/
def State.formSkew (p : PairId) (s : State) : State :=
  let k := s.pair p
  if k.coupled then
    let delta :=
      skewDifference (s.ch (masterOf p)).pos.latched (s.ch (followerOf p)).pos.latched k.skewOffset
    s.setPair p { k with delta := delta, corr := skewCorrection k.kskew k.corrMax delta }
  else s

/-- The skew condition of the latest difference (R121). -/
def Pair.overLimit (k : Pair) : Bool := decide (k.skewLimit < k.delta.natAbs)

/-- A channel of the pair is in CHARGING, RUNNING, PARKED or STOPPING (R121). -/
def State.pairDrives (s : State) (p : PairId) : Bool :=
  (s.ch (masterOf p)).state.takes || (s.ch (followerOf p)).state.takes

/-- The skew supervision of a coupled pair (R121). -/
def State.testSkew (p : PairId) (s : State) : State :=
  let k := s.pair p
  if !k.coupled then s
  else if !k.overLimit then s.setPair p { k with skewHolds := false, skewRaised := false }
  else if !k.skewRaised && s.pairDrives p then
    (s.setPair p { k with skewHolds := true, skewRaised := true }).raiseOn [masterOf p, followerOf p] .skew
  else s.setPair p { k with skewHolds := true }

/-! ## The thermal model -/

/-- The heating term of the latest currents (R110). -/
def Sample.heating (x : Sample) : Int := (x.ia ^ 2 + x.ib ^ 2 + x.ic ^ 2) / 6144

/-- The accumulator after an update (R110). -/
def Channel.nextAccumulator (x : Channel) : Nat :=
  (clampTo 0 4294967295 ((x.ref.accumulator : Int) + x.sample.heating - (x.limits.icont ^ 2 / 4096 : Nat))).toNat

/-- The derate flag for an accumulator (R111). -/
def derateFlag (t : ThermalValues) (accumulator : Nat) (flag : Bool) : Bool :=
  if t.awarn < accumulator then true else if accumulator ≤ t.aclear then false else flag

/-- The thermal trip flag for an accumulator at a valley (R112). -/
def tripFlag (t : ThermalValues) (accumulator : Nat) (flag : Bool) : Bool :=
  if flag then !decide (accumulator ≤ t.aclear) else decide (t.atrip ≤ accumulator)

/-- The thermal update of a valley (R110 to R112). -/
def Channel.heat (x : Channel) : Channel :=
  { x with ref :=
    { x.ref with
      accumulator := x.nextAccumulator
      derate := derateFlag x.thermal x.nextAccumulator x.ref.derate
      tripped := tripFlag x.thermal x.nextAccumulator x.ref.tripped } }

/-- THERMAL levels come into force: the flags are tested at once, A stays, and nothing is raised (R109). -/
def Channel.setThermal (v : ThermalValues) (x : Channel) : Channel :=
  { x with
    thermal := v
    ref :=
      { x.ref with
        derate := derateFlag v x.ref.accumulator x.ref.derate
        tripped := x.ref.tripped && !decide (x.ref.accumulator ≤ v.aclear) } }

end Sys2Proof.Machine
end

