-- ==== Sys2Proof/Machine/Timebase.lean ====
section
/-! DEFINITION. The events of a channel's timebase: VALLEY with its steps in the order of R3, PEAK, and the tick of
the prescaled clock. Each acts on the channel, or on both channels of its coupled pair (log 5). -/

namespace Sys2Proof.Machine

/-! ## Waiting blocks come into force (R1, R190) -/

/-- A waiting TIMEBASE block: in MODULATE the staged set is emptied and the compare values take half duty (R1). -/
def Channel.bringTimebase (x : Channel) : Channel :=
  match x.waiting.timebase with
  | none => x
  | some v =>
    let y := { x with timebase := v, waiting := { x.waiting with timebase := none } }
    if y.tb.gateMode = .modulate then { y with tb := { y.tb with staged := none, compare := y.halfDuty } } else y

/-- A waiting LOOP block (R40). -/
def Channel.bringLoop (x : Channel) : Channel :=
  match x.waiting.loop with
  | none => x
  | some v => { x with loop := v, waiting := { x.waiting with loop := none } }

/-- A waiting ENCODER block (R16). -/
def Channel.bringEncoder (x : Channel) : Channel :=
  match x.waiting.encoder with
  | none => x
  | some v => { x with encoder := v, waiting := { x.waiting with encoder := none } }

/-- A waiting LIMITS block (R54). -/
def Channel.bringLimits (x : Channel) : Channel :=
  match x.waiting.limits with
  | none => x
  | some v => { x with limits := v, waiting := { x.waiting with limits := none } }

/-- A waiting THERMAL block (R109). -/
def Channel.bringThermal (x : Channel) : Channel :=
  match x.waiting.thermal with
  | none => x
  | some v => Channel.setThermal v { x with waiting := { x.waiting with thermal := none } }

/-- A waiting WINDOWS block (R102). -/
def Channel.bringWindows (x : Channel) : Channel :=
  match x.waiting.windows with
  | none => x
  | some v => { x with windows := v, waiting := { x.waiting with windows := none } }

/-- A waiting IDLE block (R55). -/
def Channel.bringIdle (x : Channel) : Channel :=
  match x.waiting.idle with
  | none => x
  | some v => { x with idle := v, waiting := { x.waiting with idle := none } }

/-- Every waiting block of the channel but FAULTS. -/
def Channel.bringBlocks (x : Channel) : Channel :=
  x.bringTimebase.bringLoop.bringEncoder.bringLimits.bringThermal.bringWindows.bringIdle

/-- FAULTS values are written; in a coupled pair the mask threshold on both channels (R132). -/
def State.writeFaults (c : ChannelId) (v : FaultsValues) (s : State) : State :=
  let t := s.modCh c (fun x => { x with faults := v })
  if t.isCoupled c then t.modCh (mateOf c) (fun x => { x with faults := { x.faults with mask := v.mask } }) else t

/-- An entry that leaves where FAULTS values have come into force since `found`: one whose end mode became AUTO and whose
condition of R139 has ended (R132), or one that leaves of its own accord (R140). -/
def State.freedEntry (found s : State) (g : ChannelId) (e : Entry) : Bool :=
  (e.endMode (found.ch g).faults == .held && e.endMode (s.ch g).faults == .auto && !s.conditionHolds g e) ||
    s.autoEnded g e

/-- FAULTS values come into force, and what they let go leaves (R132). -/
def State.setFaults (c : ChannelId) (v : FaultsValues) (s : State) : State :=
  (s.writeFaults c v).settleBy (State.freedEntry s) c

/-- A waiting FAULTS block comes into force (R132). What it lets go does not leave yet: step 2 of R3 acts under the
channel's state as the valley finds it (log 37). -/
def State.bringFaults (c : ChannelId) (s : State) : State :=
  match (s.ch c).waiting.faults with
  | none => s
  | some v => (s.modCh c (fun x => { x with waiting := { x.waiting with faults := none } })).writeFaults c v

/-! ## Step 1: the period, the latches and the start of conversion -/

/-- The electrical angle of a latched position (R16). -/
def electricalAngle (e : EncoderValues) (latched : BitVec 32) : Nat :=
  let p := (latched - e.pos0).toInt % (e.cpr : Int)
  ((p * e.pp * 65536 / e.cpr + e.thetaOff) % 65536).toNat

/-- The position and the Udc are latched, and the speed and the angle formed (R15, R16, R154). -/
def Channel.latch (udc : Nat) (x : Channel) : Channel :=
  let previous := if x.pos.relatch then x.pos.count else x.pos.latched
  { x with pos :=
    { x.pos with
      latched := x.pos.count
      previous := previous
      relatch := false
      omega := (x.pos.count - previous).toInt
      theta := electricalAngle x.encoder x.pos.count
      udc := udc } }

/-- The counter stands at 0 and counts up, and the period number rises (R1, R2). -/
def Channel.beginPeriod (now : Nat) (x : Channel) : Channel :=
  { x with tb := { x.tb with counter := 0, up := true, period := x.tb.period + 1, periodStart := now } }

/-- Conversion starts (R9). -/
def Channel.startConversion (x : Channel) : Channel := { x with sample := { x.sample with converting := true } }

/-- What the valley does first on a channel: waiting blocks, then step 1 of R3. -/
def Channel.openValley (now udc : Nat) (x : Channel) : Channel :=
  (((x.bringBlocks.beginPeriod now).latch udc).startConversion).driveGates

/-- The update mode in force of a channel. -/
def State.updateMode (s : State) (c : ChannelId) : UpdateMode := (s.ch c).timebase.mode

/-- One channel opens its valley: its waiting blocks come into force, FAULTS apart, and step 1 acts. A LIMITS block so
brings its late limit before the load point of FULL mode of this valley is judged (DEDUCED, log 38). -/
def State.openValley (c : ChannelId) (s : State) : State := s.modCh c (Channel.openValley s.now s.bus.latest)

/-- The moment at which the period of a channel ends (R1). -/
def Channel.periodEnd (x : Channel) : Nat := x.tb.periodStart + 2 * x.timebase.n * x.timebase.prescale

/-! ## Step 2: the setpoint queue -/

/-- The queue that serves the channels acts under the state that the valley finds (R3, R86 to R89, R92). Then the entries
leave whose condition has ended: an AUTO STARVED whose run a taken record ends (R89), and what the blocks that came into
force at this valley let go (R112, R132), which leaves no sooner (DESIGN CHOICE, log 37). -/
def State.takeSetpoint (c : ChannelId) (s found : State) : State :=
  (s.modCh (s.leader c) Channel.takeSetpoint).settleBy (State.freedEntry found) c

/-! ## The load point of FULL mode -/

/-- The load point of FULL mode at a valley, by the update mode of the period that ends (R4). -/
def State.valleyLoad (mode : UpdateMode) (c : ChannelId) (s : State) : State :=
  match mode with
  | .half => s
  | .full => s.loadPoint c

/-- The load points of FULL mode, by the update modes that the valley finds (R3, R4). They fall after step 2, which acts
under the channel's state as the valley finds it, and before step 3 (DESIGN CHOICE, log 6). In a pair they are taken one
after the other, the master's first, and a LATE of the master's is raised, with its PARTNER and both reactions, before
the follower's load point; a follower that so leaves computing has no mark left to judge (R50) (DESIGN CHOICE, log 28). -/
def State.valleyLoads (c : ChannelId) (s found : State) : State :=
  s.forEach (s.group c) (fun g t => t.valleyLoad (found.updateMode g) g)

/-! ## Step 3: ramps, brakes, wake -/

/-- Both ramp values step toward 0 (R66). -/
def Channel.stepRamp (x : Channel) : Channel :=
  if x.state.ramps then
    { x with stop :=
      { x.stop with
        rd := stepToward x.limits.rampSlope x.stop.rd
        rq := stepToward x.limits.rampSlope x.stop.rq } }
  else x

/-- Both ramp values are 0. -/
def Channel.rampDone (x : Channel) : Bool := decide (x.stop.rd = 0) && decide (x.stop.rq = 0)

/-- The ramps of a group end: where both channels of a pair ramp, at the valley at which all four values are 0
(R66, R125). -/
def State.endRamps (group : List ChannelId) (s : State) : State :=
  let ramping := group.filter (fun g => (s.ch g).state.ramps)
  if ramping.all (fun g => (s.ch g).rampDone) then s.forEach ramping State.endRamp else s

/-- The slow count of a short brake (R67). -/
def Channel.countSlow (x : Channel) : Channel :=
  if x.state = .stopping .brake then
    { x with stop :=
      { x.stop with slowCount := if x.pos.omega.natAbs ≤ x.limits.brakeSpeed then x.stop.slowCount + 1 else 0 } }
  else x

/-- A short brake ends at its eighth slow valley (R67). -/
def State.stepBrake (c : ChannelId) (s : State) : State :=
  let t := s.modCh c Channel.countSlow
  if (t.ch c).state = .stopping .brake ∧ 8 ≤ (t.ch c).stop.slowCount then t.endBrake c .speed else t

/-- A record asks for current (R63). -/
def asksCurrent : Option Setpoint → Bool
  | none => false
  | some r => decide (r.id ≠ 0) || decide (r.iq ≠ 0)

/-- Parked channels wake (R63, R124). -/
def State.wake (group : List ChannelId) (taken : Option Setpoint) (s : State) : State :=
  if asksCurrent taken then s.beginCharging (group.filter (fun g => (s.ch g).state = .parked)) else s

/-- The controllers' valley actions (R3, step 3). Where both short brakes of a pair end at one valley, the master's end
and its STATE event come first, and a ramp's end comes before a brake's (DESIGN CHOICE, log 39). An AUTO STARVED whose
condition the master's end has ended, for that end empties the queue (R89), leaves only after every ramp and brake of
the pair that ends at this valley has ended: R125 and R140 order them nowhere (DESIGN CHOICE, log 56). On a channel that
is not coupled too, it leaves after the STATE event of the entry to FAULTED (DESIGN CHOICE, log 57). -/
def State.controllerStep (c : ChannelId) (taken : Option Setpoint) (s : State) : State :=
  let g := s.group c
  let t := ((s.forEach g (fun g t => t.modCh g Channel.stepRamp)).endRamps g).forEach g State.stepBrake
  (t.wake g taken).settle c

/-! ## Steps 4 and 5: heat, skew and references -/

/-- The thermal model of each channel updates (R110 to R112). -/
def State.heatAll (c : ChannelId) (s : State) : State :=
  (s.forEach (s.group c) (fun g t => t.modCh g Channel.heat)).settle c

/-- The coupler and the reference paths (R119, R120, R98). -/
def State.formAll (c : ChannelId) (s : State) : State :=
  (s.formSkew (pairOf c)).forEach (s.group c) State.formReferences

/-- The sources that the queue and the thermal model raise, taken at the end of step 5 (R3, R88, R112; order log
26): `starved` where the starved flag was set, `tripped` the channels whose trip flag was set. -/
def State.raiseValley (c : ChannelId) (starved : Bool) (tripped : List ChannelId) (s : State) : State :=
  (if starved then s.raise (s.leader c) .starved else s).raiseOn tripped .i2t

/-! ## Step 6: parking and SKEW -/

/-- The park condition of one channel (R61). -/
def Channel.stands (x : Channel) : Bool :=
  decide (x.ref.appliedId = 0) && decide (x.ref.appliedIq = 0) && decide (x.pos.omega = 0)

/-- The park condition of a channel or a coupled pair (R61, R124). -/
def State.parkHolds (c : ChannelId) (s : State) : Bool :=
  (s.ch (s.leader c)).idle.parkAllowed && (s.group c).all (fun g => (s.ch g).stands)

/-- The park timer starts, runs on or is stopped (R61). -/
def Channel.parkTimer (holds : Bool) (now : Nat) (x : Channel) : Channel :=
  { x with timers :=
    { x.timers with park :=
      if holds then some (x.timers.park.getD (now + 2 ^ x.idle.parkExponent * Config.cyclesPerMs)) else none } }

/-- The park condition is evaluated in RUNNING (R61, R124). -/
def State.evaluatePark (c : ChannelId) (s : State) : State :=
  if (s.group c).all (fun g => (s.ch g).state = .running) then
    s.modCh (s.leader c) (Channel.parkTimer (s.parkHolds c) s.now)
  else s

/-! ## Step 7: telemetry -/

/-- The telemetry record (R193, 12.6.6). -/
def State.telemetry (s : State) (c : ChannelId) : List Byte :=
  let x := s.ch c
  [byteOf c.val] ++ le16 x.tb.period.toNat ++ [x.state.byte] ++ le16s x.sample.ia ++ le16s x.sample.ib ++
    le16s x.ref.appliedId ++ le16s x.ref.appliedIq ++ le16s x.loopState.vd ++ le16s x.loopState.vq ++
    le16 x.pos.udc ++ le16 (x.ref.accumulator / 65536) ++ [byteOf x.queue.records.length] ++
    le16 (x.telemetryFlags (s.isCoupled c) s.report.eventsLost) ++ le32 x.pos.latched.toNat

/-- The telemetry countdown falls, and at 0 a telegram is captured (R192, R193). -/
def State.capture (c : ChannelId) (s : State) : State :=
  match (s.ch c).countdown with
  | none => s
  | some k =>
    if k ≤ 1 then (s.modCh c (fun x => { x with countdown := some x.divisor })).offerTelemetry (s.telemetry c)
    else s.modCh c (fun x => { x with countdown := some (k - 1) })

/-! ## The whole valley -/

/-- What opens the valley of a group at its moment: blocks in force and step 1 on every channel, then the waiting FAULTS
blocks, the master's before the follower's (DESIGN CHOICE, log 37). No channel changes its state by it. -/
def State.openGroup (c : ChannelId) (s : State) : State :=
  ((s.reach (s.ch (s.leader c)).periodEnd).forEach (s.group c) State.openValley).forEach (s.group c) State.bringFaults

/-- The channels of the group of `c` whose thermal trip flag is set in `t` and was clear in `s`. -/
def State.newlyTripped (c : ChannelId) (s t : State) : List ChannelId :=
  (s.group c).filter (fun g => (t.ch g).ref.tripped && !(s.ch g).ref.tripped)

/-- The starved flag of the serving queue is set in `t` and was clear in `s`. -/
def State.newlyStarved (c : ChannelId) (s t : State) : Bool :=
  (t.ch (s.leader c)).queue.starved && !(s.ch (s.leader c)).queue.starved

/-- Steps 2 to 5 of R3, and between steps 2 and 3 the load points of FULL mode (log 6). A STARVED of step 2 is taken at the
end of step 5 all the same where such a load point has stopped the channel by LATE (R3; DESIGN CHOICE, log 6). -/
def State.valleyForm (c : ChannelId) (s found : State) : State :=
  let queued := s.takeSetpoint c found
  let loaded := queued.valleyLoads c found
  let stepped := loaded.controllerStep c (s.ch (s.leader c)).dueRecord
  let heated := stepped.heatAll c
  (heated.formAll c).raiseValley c (State.newlyStarved c s queued) (State.newlyTripped c stepped heated)

/-- Steps 6 and 7 of R3. At the common valley of a coupled pair the master's telemetry is captured and offered to the
transmit queue before the follower's, so where one place is free the follower's is dropped: R192 and R193 give no order
(DESIGN CHOICE, log 51). -/
def State.valleyClose (c : ChannelId) (s : State) : State :=
  ((s.evaluatePark c).testSkew (pairOf c)).forEach (s.group c) State.capture

/-- A valley of a configured channel, or of its coupled pair (R3). -/
def State.valley (c : ChannelId) (s : State) : State :=
  if (s.ch c).state.configured then ((s.openGroup c).valleyForm c s).valleyClose c else s

/-- VALLEY (R3); the event is asserted by its command, whatever the counter shows (DESIGN CHOICE, log 1). -/
def execValley (c : ChannelId) (s : State) : Host.Outcome State Fault Refusal := .next (s.live (State.valley c))

/-! ## Peak and tick -/

/-- The moment of the peak (R4). -/
def Channel.peakAt (x : Channel) : Nat := x.tb.periodStart + x.timebase.n * x.timebase.prescale

/-- The counter stands at N and counts down (R1, R4). -/
def Channel.peakCounter (x : Channel) : Channel :=
  Channel.driveGates { x with tb := { x.tb with counter := x.timebase.n, up := false } }

/-- One channel's peak: in HALF mode the load point (R4). -/
def State.peakOf (c : ChannelId) (s : State) : State :=
  let t := s.modCh c Channel.peakCounter
  match t.updateMode c with
  | .half => t.loadPoint c
  | .full => t

/-- A peak of a configured channel, or of its coupled pair (R4; order log 28). -/
def State.peak (c : ChannelId) (s : State) : State :=
  if (s.ch c).state.configured then
    (s.reach (s.ch (s.leader c)).peakAt).forEach (s.group c) State.peakOf
  else s

/-- PEAK (R4; DESIGN CHOICE, log 1). -/
def execPeak (c : ChannelId) (s : State) : Host.Outcome State Fault Refusal := .next (s.live (State.peak c))

/-- The moment of the next tick of the prescaled clock (R1). -/
def Channel.nextTickAt (x : Channel) : Nat := x.tb.periodStart + (x.ticksPassed + 1) * x.timebase.prescale

/-- A tick of the prescaled clock of a configured channel, or of its coupled pair (R1, R7). In UNCONFIGURED the counter
is held at 0 (R1), and the tick adds to the time for which the outputs have been off (R7; log 17). -/
def State.clockTick (c : ChannelId) (s : State) : State :=
  if (s.ch c).state.configured then
    (s.reach (s.ch (s.leader c)).nextTickAt).forEach (s.group c) (fun g t => t.modCh g Channel.tick)
  else s.modCh c Channel.ageGates

/-- PRESCALED_CLOCK_TICK (R1, R6, R7). -/
def execPrescaledClockTick (c : ChannelId) (s : State) : Host.Outcome State Fault Refusal :=
  .next (s.live (State.clockTick c))

end Sys2Proof.Machine
end

