-- ==== Sys2Proof/Machine/Profile.lean ====
section
/-! DEFINITION. The dispatcher's execution of a request (R184, R189), and the two profile requests LOAD_PROFILE
(R57, R190) and READ_PROFILE (R191). -/

namespace Sys2Proof.Machine

/-! ## The dispatcher -/

/-- The dispatcher may execute this request: a transmit entry is free, no DEVICE_RESET awaits its effect, and the
request is the head of the command queue, or the queue is empty (R184; log 4). -/
def State.mayServe (r : Request) (s : State) : Bool :=
  !s.report.full && !s.resetAwaited && (s.commands.isEmpty || s.commands.head? == some r)

/-- The request leaves the command queue (R184). -/
def State.dequeue (r : Request) (s : State) : State :=
  if s.commands.head? = some r then { s with commands := s.commands.tail } else s

/-- One execution (R184): the request acts and is answered, and leaves the queue. A request that may not be executed
waits. -/
def State.serve (r : Request) (act : State → State) (s : State) : State :=
  if s.mayServe r then (act s).dequeue r else s

/-- The answer to a request: its reply, and for OK its effect, whose events enter after the reply (R184, R189). -/
def State.answer (r : Request) (status : Status) (content : List Byte) (effect : State → State) (s : State) : State :=
  if status = .ok then effect (s.reply r.kind r.tag .ok content) else s.refuse r.kind r.tag status

/-- A payload byte as a number. -/
def Request.at (r : Request) (i : Nat) : Nat := (r.payload.getD i 0).toNat

/-- A request without payload (R189). -/
def State.onNothing (r : Request) (act : State → State) (s : State) : State :=
  if r.payload.length = 0 then act s else s.refuse r.kind r.tag .badLength

/-- A request whose payload of fixed length opens with a channel (R189). -/
def State.onChannel (r : Request) (length : Nat) (act : ChannelId → State → State) (s : State) : State :=
  if r.payload.length = length then
    match channelOf (r.at 0) with
    | none => s.refuse r.kind r.tag .badChannel
    | some c => act c s
  else s.refuse r.kind r.tag .badLength

/-- A request whose payload of fixed length opens with a pair (R189). -/
def State.onPair (r : Request) (length : Nat) (act : PairId → State → State) (s : State) : State :=
  if r.payload.length = length then
    match pairOfNumber (r.at 0) with
    | none => s.refuse r.kind r.tag .badChannel
    | some p => act p s
  else s.refuse r.kind r.tag .badLength

/-- What a command of the dispatcher does: nothing while the reset line holds the part (log 25). -/
def execRequest (r : Request) (act : State → State) (s : State) : Host.Outcome State Fault Refusal :=
  .next (s.live (State.serve r act))

/-! ## LOAD_PROFILE -/

/-- LOAD_PROFILE is examined in this state (R190, first check). -/
def ChState.loads : ChState → Bool
  | .unconfigured => true
  | .disabled => true
  | .running => true
  | _ => false

/-- A block that RUNNING does not take is present (R190). -/
def Blocks.barredInRunning (b : Blocks) : Bool := b.timebase.isSome || b.encoder.isSome || b.sensing.isSome

/-- The checks of R190 from the kind of the channel on. -/
def Channel.judgeBlocks (x : Channel) (coupled : Bool) (kind : ChannelKind) (b : Blocks) : Status :=
  if x.state.configured && x.kind != kind then .badValue
  else if !x.state.configured && !b.complete then .missingBlock
  else if coupled && b.timebase.isSome then .coupled
  else if x.state == .running && b.barredInRunning then .badState
  else if !b.ordered then .badValue
  else .ok

/-- The status of a LOAD_PROFILE (R190). -/
def Channel.judgeProfile (x : Channel) (coupled : Bool) (kind : Option ChannelKind) (b : Option Blocks) : Status :=
  if !x.state.loads then .badState
  else
    match kind, b with
    | some k, some b => x.judgeBlocks coupled k b
    | _, _ => .badValue

/-- THERMAL levels of a telegram come into force where it carries them (R109). -/
def Channel.forceThermal (v : Option ThermalValues) (x : Channel) : Channel :=
  match v with
  | none => x
  | some v => x.setThermal v

/-- Taken values where a block is present, else those held before. -/
def orKept {α : Type} (block : Option α) (kept : Option α) : Option α :=
  match block with
  | none => kept
  | some v => some v

/-- Nothing waits any more where a block has come into force (R190). -/
def unlessTaken {α : Type} (block : Option α) (waiting : Option α) : Option α :=
  match block with
  | none => waiting
  | some _ => none

/-- The blocks of a telegram in force at once, TIMEBASE, ENCODER and FAULTS apart (R190). -/
def Channel.forceBlocks (b : Blocks) (x : Channel) : Channel :=
  Channel.forceThermal b.thermal
    { x with
      sensing := b.sensing.getD x.sensing
      loop := b.loop.getD x.loop
      limits := b.limits.getD x.limits
      windows := b.windows.getD x.windows
      idle := b.idle.getD x.idle
      waiting :=
        { x.waiting with
          loop := unlessTaken b.loop x.waiting.loop
          limits := unlessTaken b.limits x.waiting.limits
          thermal := unlessTaken b.thermal x.waiting.thermal
          windows := unlessTaken b.windows x.waiting.windows
          idle := unlessTaken b.idle x.waiting.idle } }

/-- The telemetry countdown that a divisor starts (R192). -/
def startCountdown (divisor : Nat) : Option Nat := if divisor = 0 then none else some divisor

/-- A channel leaves UNCONFIGURED: every block in force, the kind set, the timebase started (R1, R2, R15, R17, R57,
R192). -/
def Channel.configure (kind : ChannelKind) (b : Blocks) (now : Nat) (x : Channel) : Channel :=
  let y := x.forceBlocks b
  { y with
    kind := kind
    timebase := b.timebase.getD y.timebase
    encoder := b.encoder.getD y.encoder
    faults := b.faults.getD y.faults
    tb := { y.tb with counter := 0, up := true, period := 0, staged := none, periodStart := now }
    pos := { y.pos with relatch := true }
    countdown := startCountdown y.divisor }

/-- The sources raised on leaving UNCONFIGURED: DRIVER, DC_OVER, STO, in that order (R57). -/
def State.raiseAtStart (c : ChannelId) (s : State) : State :=
  let s1 := if (s.ch c).sample.driverAsserted then s.raise c .driver else s
  let s2 := if s1.bus.ovOpen then s1.raise c .dcOver else s1
  if stoHolds s2.inputs c then s2.raise c .sto else s2

/-- LOAD_PROFILE taken in UNCONFIGURED (R57). -/
def State.configureChannel (c : ChannelId) (kind : ChannelKind) (b : Blocks) (s : State) : State :=
  ((s.modCh c (Channel.configure kind b s.now)).enterDisabled c .completed).raiseAtStart c

/-- FAULTS values of a telegram come into force where it carries them (R132). -/
def State.forceFaults (c : ChannelId) (v : Option FaultsValues) (s : State) : State :=
  match v with
  | none => s
  | some v =>
    (s.modCh c (fun x => { x with waiting := { x.waiting with faults := none } })).setFaults c v

/-- LOAD_PROFILE taken in DISABLED: all in force at once, but TIMEBASE and ENCODER wait (R190). -/
def State.loadDisabled (c : ChannelId) (b : Blocks) (s : State) : State :=
  State.forceFaults c b.faults (s.modCh c (fun x =>
    let y := x.forceBlocks b
    { y with waiting :=
      { y.waiting with
        timebase := orKept b.timebase y.waiting.timebase
        encoder := orKept b.encoder y.waiting.encoder } }))

/-- LOAD_PROFILE taken in RUNNING: all wait for the next valley (R190). -/
def Channel.loadRunning (b : Blocks) (x : Channel) : Channel :=
  { x with waiting :=
    { x.waiting with
      loop := orKept b.loop x.waiting.loop
      limits := orKept b.limits x.waiting.limits
      thermal := orKept b.thermal x.waiting.thermal
      windows := orKept b.windows x.waiting.windows
      faults := orKept b.faults x.waiting.faults
      idle := orKept b.idle x.waiting.idle } }

/-- The effect of an accepted LOAD_PROFILE, by the channel's state (R190). -/
def State.takeProfile (c : ChannelId) (kind : ChannelKind) (b : Blocks) (s : State) : State :=
  match (s.ch c).state with
  | .unconfigured => s.configureChannel c kind b
  | .disabled => s.loadDisabled c b
  | _ => s.modCh c (Channel.loadRunning b)

/-- LOAD_PROFILE with a payload that its headers tile, on an existing channel (R190). -/
def State.loadProfileOn (r : Request) (tiles : List (Nat × List Byte)) (c : ChannelId) (s : State) : State :=
  let kind := kindOf (r.payload.getD 1 0)
  let blocks := blocksOf tiles
  s.answer r ((s.ch c).judgeProfile (s.isCoupled c) kind blocks) []
    (State.takeProfile c (kind.getD .axis) (blocks.getD Blocks.none))

/-- LOAD_PROFILE (R189, R190). -/
def State.loadProfile (r : Request) (s : State) : State :=
  if r.payload.length < 2 then s.refuse r.kind r.tag .badLength
  else
    match tile (r.payload.drop 2) with
    | none => s.refuse r.kind r.tag .badLength
    | some tiles => s.onChannel r r.payload.length (State.loadProfileOn r tiles)

/-- LOAD_PROFILE. -/
def execLoadProfile (tag : Byte) (payload : List Byte) (s : State) : Host.Outcome State Fault Refusal :=
  execRequest { kind := 0x11, tag := tag, payload := payload }
    (State.loadProfile { kind := 0x11, tag := tag, payload := payload }) s

/-! ## READ_PROFILE -/

/-- A TIMEBASE body (12.6.5). -/
def TimebaseValues.body (v : TimebaseValues) : List Byte :=
  [byteOf v.prescale] ++ le16 v.n ++
    [match v.mode with
      | .half => 0
      | .full => 1, byteOf v.dt, byteOf v.cmin, byteOf v.tdc] ++ le16 v.db

/-- A SENSING body. -/
def SensingValues.body (v : SensingValues) : List Byte := le16 v.offA ++ le16 v.offB ++ le16 v.itrip

/-- A LOOP body. -/
def LoopValues.body (v : LoopValues) : List Byte :=
  le16 v.kpD ++ le16 v.kiD ++ le16 v.kpQ ++ le16 v.kiQ ++ le16 v.mlim

/-- An ENCODER body. -/
def EncoderValues.body (v : EncoderValues) : List Byte :=
  le32 v.cpr ++ [byteOf v.pp] ++ le16 v.thetaOff ++ le32 v.pos0.toNat ++ [yesNo v.inverted]

/-- A LIMITS body. -/
def LimitsValues.body (v : LimitsValues) : List Byte :=
  le16 v.ilim ++ le16 v.idLim ++ le16 v.icont ++ le16 v.rampSlope ++
    [byteOf v.holdLimit, byteOf v.lateLimit, byteOf v.brakeSpeed] ++ le16 v.brakeTime

/-- A THERMAL body. -/
def ThermalValues.body (v : ThermalValues) : List Byte := le32 v.awarn ++ le32 v.aclear ++ le32 v.atrip

/-- A window record; its cap field as taken (log 24). -/
def Window.body (w : Window) : List Byte :=
  [byteOf (bitsToNat [w.enabled, w.blockPos, w.blockNeg, w.capPresent])] ++ le32 w.base.toNat ++ le32 w.limit.toNat ++
    le16 w.cap

/-- A WINDOWS body. -/
def windowsBody (ws : List Window) : List Byte := byteOf ws.length :: ws.flatMap Window.body

/-- A FAULTS body. -/
def FaultsValues.body (v : FaultsValues) : List Byte :=
  [byteOf v.mask, byteOf v.endModeBits, yesNo v.encoderBrakes]

/-- An IDLE body. -/
def IdleValues.body (v : IdleValues) : List Byte :=
  [yesNo v.parkAllowed, byteOf v.parkExponent] ++ le16 v.tBoot ++ [byteOf v.holdoff, byteOf v.tStale]

/-- The pending byte and the body of a block: the values last taken (R191). -/
def lastTaken {α : Type} (waiting : Option α) (held : α) (body : α → List Byte) : Bool × List Byte :=
  match waiting with
  | none => (false, body held)
  | some v => (true, body v)

/-- Whether the values of a block type wait, and its body; none for a type not of 12.6.5 (R191). For FAULTS the mask
threshold is the one in force. -/
def Channel.readBlock (x : Channel) (code : Nat) : Option (Bool × List Byte) :=
  match code with
  | 1 => some (lastTaken x.waiting.timebase x.timebase TimebaseValues.body)
  | 2 => some (false, x.sensing.body)
  | 3 => some (lastTaken x.waiting.loop x.loop LoopValues.body)
  | 4 => some (lastTaken x.waiting.encoder x.encoder EncoderValues.body)
  | 5 => some (lastTaken x.waiting.limits x.limits LimitsValues.body)
  | 6 => some (lastTaken x.waiting.thermal x.thermal ThermalValues.body)
  | 7 => some (lastTaken x.waiting.windows x.windows windowsBody)
  | 8 => some (lastTaken x.waiting.faults x.faults (fun v => FaultsValues.body { v with mask := x.faults.mask }))
  | 9 => some (lastTaken x.waiting.idle x.idle IdleValues.body)
  | _ => none

/-- READ_PROFILE on an existing channel (R191). -/
def State.readProfileOn (r : Request) (c : ChannelId) (s : State) : State :=
  match (s.ch c).readBlock (r.at 1) with
  | none => s.refuse r.kind r.tag .badValue
  | some (pending, body) =>
    s.answer r .ok ([yesNo pending, byteOf (r.at 1), byteOf body.length] ++ body) id

/-- READ_PROFILE (R189, R191). -/
def State.readProfile (r : Request) (s : State) : State := s.onChannel r 2 (State.readProfileOn r)

/-- READ_PROFILE. -/
def execReadProfile (tag : Byte) (payload : List Byte) (s : State) : Host.Outcome State Fault Refusal :=
  execRequest { kind := 0x12, tag := tag, payload := payload }
    (State.readProfile { kind := 0x12, tag := tag, payload := payload }) s

end Sys2Proof.Machine
end

