-- ==== Sys2Proof/Machine/Timers.lean ====
section
/-! DEFINITION. The expiries of the channel controller's timers: charge (R60, R124), park (R61, R124), brake (R67)
and holdoff (R74). A timer holds the moment of its expiry (log 34); an expiry of a stopped timer changes nothing. -/

namespace Sys2Proof.Machine

/-- The charge timer expires in CHARGING: the channel, or the coupled pair, enters RUNNING (R60, R124). -/
def State.chargeExpiry (c : ChannelId) (s : State) : State :=
  match (s.ch c).timers.charge with
  | none => s
  | some moment =>
    if (s.ch c).state = .charging then (s.reach moment).forEach (s.group c) State.enterRunning else s

/-- CHARGE_TIMER_EXPIRY (R60). -/
def execChargeTimerExpiry (c : ChannelId) (s : State) : Host.Outcome State Fault Refusal :=
  .next (s.live (State.chargeExpiry c))

/-- The park timer expires in RUNNING: the channel, or the coupled pair, enters PARKED (R61, R62, R124). -/
def State.parkExpiry (c : ChannelId) (s : State) : State :=
  match (s.ch c).timers.park with
  | none => s
  | some moment =>
    if (s.ch c).state = .running then (s.reach moment).forEach (s.group c) State.enterParked else s

/-- PARK_TIMER_EXPIRY (R61). -/
def execParkTimerExpiry (c : ChannelId) (s : State) : Host.Outcome State Fault Refusal :=
  .next (s.live (State.parkExpiry c))

/-- The brake timer expires: the short brake ends with reason TIME (R67). An AUTO STARVED whose condition the emptied queue
ends leaves after the STATE event of the entry to FAULTED (DESIGN CHOICE, log 57). -/
def State.brakeExpiry (c : ChannelId) (s : State) : State :=
  match (s.ch c).timers.brake with
  | none => s
  | some moment =>
    if (s.ch c).state = .stopping .brake then ((s.reach moment).endBrake c .time).settle c else s

/-- BRAKE_TIMER_EXPIRY (R67). -/
def execBrakeTimerExpiry (c : ChannelId) (s : State) : Host.Outcome State Fault Refusal :=
  .next (s.live (State.brakeExpiry c))

/-- The suspended calibration has waited longer than T_stale, tenths of a second (R74). -/
def Channel.isStale (x : Channel) (now : Nat) : Bool :=
  decide (x.idle.tStale * 100 * Config.cyclesPerMs < now - x.cal.suspendedAt)

/-- A suspended calibration resumes, over again where it is stale (R74). -/
def State.resumeCalibration (c : ChannelId) (s : State) : State :=
  s.enterCalibrating c ((s.ch c).isStale s.now)

/-- The holdoff timer expires in DISABLED: the calibration resumes (R74). -/
def State.holdoffExpiry (c : ChannelId) (s : State) : State :=
  match (s.ch c).timers.holdoff with
  | none => s
  | some moment => if (s.ch c).state = .disabled then (s.reach moment).resumeCalibration c else s

/-- HOLDOFF_TIMER_EXPIRY (R74). -/
def execHoldoffTimerExpiry (c : ChannelId) (s : State) : Host.Outcome State Fault Refusal :=
  .next (s.live (State.holdoffExpiry c))

end Sys2Proof.Machine
end

