-- ==== Sys2Proof/Machine/Requests.lean ====
section
/-! DEFINITION. The requests that operate and configure the part (12.2, 12.4): enabling and stopping, calibration,
coupling, faults, setpoints, resets, and the bus, inputs, reports and link. -/

namespace Sys2Proof.Machine

/-! ## ENABLE (R58, R122) -/

/-- STOPPING or FAULTED, which ENABLE refuses (R58). -/
def ChState.refusesEnable (x : ChState) : Bool := x.isStopping || x == .faulted

/-- DISABLED or CALIBRATING, which ENABLE takes into CHARGING (R58). -/
def ChState.isReady (x : ChState) : Bool := x == .disabled || x == .calibrating

/-- All channels of the group are in one of CHARGING, RUNNING and PARKED (R122). -/
def State.groupDrives (s : State) (c : ChannelId) : Bool :=
  (s.group c).all (fun g => (s.ch g).state = .charging) ||
    (s.group c).all (fun g => (s.ch g).state = .running) ||
    (s.group c).all (fun g => (s.ch g).state = .parked)

/-- The status of an ENABLE on a channel or its coupled pair (R58, R122). -/
def State.enableStatus (s : State) (c : ChannelId) : Status :=
  if (s.group c).any (fun g => (s.ch g).state.refusesEnable || !(s.ch g).state.configured) then .badState
  else if s.bus.profile.isNone then .badState
  else if s.bus.ride ≠ .normal then .rideThrough
  else if s.groupDrives c then .ok
  else if (s.group c).all (fun g => (s.ch g).state.isReady) then .ok
  else .badState

/-- A calibration in progress is suspended (R73). -/
def Channel.suspend (now : Nat) (x : Channel) : Channel :=
  if x.state = .calibrating then
    Channel.endOp .suspended { x with cal := { x.cal with condition := .suspended, suspendedAt := now } }
  else x

/-- The effect of an ENABLE: ready channels enter CHARGING, a calibration suspended (R58, R73, R122). -/
def State.enableGroup (c : ChannelId) (s : State) : State :=
  let ready := (s.group c).filter (fun g => (s.ch g).state.isReady)
  if ready.isEmpty then s
  else (s.forEach ready (fun g t => t.modCh g (Channel.suspend t.now))).beginCharging ready

/-- ENABLE (R58, R122). -/
def State.enable (r : Request) (s : State) : State :=
  s.onChannel r 1 (fun c t => t.answer r (t.enableStatus c) [] (State.enableGroup c))

/-- ENABLE. -/
def execEnable (tag : Byte) (payload : List Byte) (s : State) : Host.Outcome State Fault Refusal :=
  execRequest { kind := 0x20, tag := tag, payload := payload }
    (State.enable { kind := 0x20, tag := tag, payload := payload }) s

/-! ## DISABLE (R64, R123) -/

/-- The states in which DISABLE is refused (R64). -/
def ChState.refusesDisable : ChState → Bool
  | .unconfigured => true
  | .stopping .rampFault => true
  | .stopping .brake => true
  | .faulted => true
  | _ => false

/-- DISABLE on one channel, by its row of R64. -/
def State.disableOne (ramp : Bool) (c : ChannelId) (s : State) : State :=
  match (s.ch c).state with
  | .charging => s.enterDisabled c .aborted
  | .parked => s.enterDisabled c .aborted
  | .running => if ramp then s.startRamp c .rampHost .hostStop else s.enterDisabled c .aborted
  | .stopping .rampHost => if ramp then s else s.enterDisabled c .aborted
  | _ => s

/-- The status of a DISABLE on a channel or its coupled pair (R64, R123). -/
def State.disableStatus (s : State) (mode : Nat) (c : ChannelId) : Status :=
  if 1 < mode then .badValue
  else if (s.group c).any (fun g => (s.ch g).state.refusesDisable) then .badState
  else .ok

/-- The effect of a DISABLE on a channel or its coupled pair (R64, R123). -/
def State.disableGroup (mode : Nat) (c : ChannelId) (s : State) : State :=
  s.forEach (s.group c) (State.disableOne (mode == 1))

/-- DISABLE (R64, R123). -/
def State.disable (r : Request) (s : State) : State :=
  s.onChannel r 2 (fun c t => t.answer r (t.disableStatus (r.at 1) c) [] (State.disableGroup (r.at 1) c))

/-- DISABLE. -/
def execDisable (tag : Byte) (payload : List Byte) (s : State) : Host.Outcome State Fault Refusal :=
  execRequest { kind := 0x21, tag := tag, payload := payload }
    (State.disable { kind := 0x21, tag := tag, payload := payload }) s

/-! ## CALIBRATE and CANCEL_OPERATION (R71, R75) -/

/-- CALIBRATE in DISABLED: a suspended calibration resumes at once, else one starts (R71). -/
def State.beginCalibration (c : ChannelId) (s : State) : State :=
  if (s.ch c).cal.condition = .suspended then s.resumeCalibration c else s.enterCalibrating c true

/-- CALIBRATE (R71). -/
def State.calibrate (r : Request) (s : State) : State :=
  s.onChannel r 1 (fun c t =>
    t.answer r (if (t.ch c).state = .disabled then .ok else .badState) [] (State.beginCalibration c))

/-- CALIBRATE. -/
def execCalibrate (tag : Byte) (payload : List Byte) (s : State) : Host.Outcome State Fault Refusal :=
  execRequest { kind := 0x22, tag := tag, payload := payload }
    (State.calibrate { kind := 0x22, tag := tag, payload := payload }) s

/-- The discard of a suspended calibration, recorded as CALIBRATE ABORTED (R70, R75). -/
def Channel.discardCalibration (x : Channel) : Channel :=
  let y := x.clearCalibration
  { y with
    timers := { y.timers with holdoff := none }
    op := { y.op with done := false, last := some (.calibrate, .aborted) } }

/-- CANCEL_OPERATION acts on the calibration record (R75). -/
def State.cancel (c : ChannelId) (s : State) : State :=
  match (s.ch c).cal.condition with
  | .empty => s
  | .running => (s.modCh c Channel.clearCalibration).enterDisabled c .aborted
  | .suspended => s.modCh c Channel.discardCalibration

/-- CANCEL_OPERATION (R75). -/
def State.cancelOperation (r : Request) (s : State) : State :=
  s.onChannel r 1 (fun c t =>
    t.answer r (if (t.ch c).cal.condition = .empty then .badState else .ok) [] (State.cancel c))

/-- CANCEL_OPERATION. -/
def execCancelOperation (tag : Byte) (payload : List Byte) (s : State) : Host.Outcome State Fault Refusal :=
  execRequest { kind := 0x23, tag := tag, payload := payload }
    (State.cancelOperation { kind := 0x23, tag := tag, payload := payload }) s

/-! ## COUPLE and UNCOUPLE (R116, R117, R128) -/

/-- The TIMEBASE values in force that a pair must share (R116). -/
def TimebaseValues.agrees (a b : TimebaseValues) : Bool :=
  decide (a.prescale = b.prescale) && decide (a.n = b.n) && decide (a.mode = b.mode)

/-- The status of a COUPLE (R116). -/
def State.coupleStatus (s : State) (p : PairId) : Status :=
  let m := s.ch (masterOf p)
  let f := s.ch (followerOf p)
  if (s.pair p).coupled then .coupled
  else if m.state ≠ .disabled ∨ f.state ≠ .disabled then .badState
  else if m.kind = .spindle ∨ f.kind = .spindle then .badState
  else if !m.timebase.agrees f.timebase then .badState
  else if m.waiting.timebase.isSome || f.waiting.timebase.isSome then .badState
  else .ok

/-- The follower joins the master: counter, period number, empty queue, mask threshold, and a latch that starts anew
(R117). A conversion of the follower in progress runs on under its one flag, timed from the master's valley; where the
pair's next valley falls first, the conversion started there takes it up (DESIGN CHOICE, log 46). -/
def Channel.follow (m x : Channel) : Channel :=
  let y := x.emptyQueue
  { y with
    tb := { y.tb with counter := m.tb.counter, up := m.tb.up, period := m.tb.period, periodStart := m.tb.periodStart }
    pos := { y.pos with relatch := true }
    faults := { y.faults with mask := m.faults.mask } }

/-- The coupler of a pair that is coupled with these values (R117). -/
def CouplingValues.toPair (v : CouplingValues) : Pair :=
  { coupled := true, kskew := v.kskew, corrMax := v.corrMax, skewLimit := v.skewLimit, skewOffset := v.skewOffset,
    delta := 0, corr := 0, skewHolds := false, skewRaised := false }

/-- The effect of a COUPLE (R117). -/
def State.couplePair (v : CouplingValues) (p : PairId) (s : State) : State :=
  (s.setPair p v.toPair).modCh (followerOf p) (Channel.follow (s.ch (masterOf p)))

/-- COUPLE (R116, R117). -/
def State.couple (r : Request) (s : State) : State :=
  s.onPair r 13 (fun p t =>
    match couplingOf (r.payload.drop 1) with
    | none => t.refuse r.kind r.tag .badLength
    | some v => t.answer r (t.coupleStatus p) [] (State.couplePair v p))

/-- COUPLE. -/
def execCouple (tag : Byte) (payload : List Byte) (s : State) : Host.Outcome State Fault Refusal :=
  execRequest { kind := 0x24, tag := tag, payload := payload }
    (State.couple { kind := 0x24, tag := tag, payload := payload }) s

/-- DISABLED or FAULTED, in which UNCOUPLE is taken (R128). -/
def ChState.isStopped (x : ChState) : Bool := x == .disabled || x == .faulted

/-- The status of an UNCOUPLE (R128). -/
def State.uncoupleStatus (s : State) (p : PairId) : Status :=
  if !(s.pair p).coupled then .ok
  else if (s.ch (masterOf p)).state.isStopped && (s.ch (followerOf p)).state.isStopped then .ok
  else .badState

/-- The coupler of a pair that is uncoupled: the coupling values stay (R128). -/
def Pair.release (k : Pair) : Pair :=
  { k with coupled := false, delta := 0, corr := 0, skewHolds := false, skewRaised := false }

/-- The effect of an UNCOUPLE: AUTO PARTNER entries leave both records (R128, R138, R147). They leave the master's record
and then the follower's, before either channel promotes or passes to DISABLED: the spec gives no order (DESIGN CHOICE,
log 41). -/
def State.uncouplePair (p : PairId) (s : State) : State :=
  if (s.pair p).coupled then
    let cs := [masterOf p, followerOf p]
    (((s.setPair p (s.pair p).release).forEach cs State.clearUncoupled).forEach cs State.afterRemoval).forEach cs
      State.settle
  else s

/-- UNCOUPLE (R128). -/
def State.uncouple (r : Request) (s : State) : State :=
  s.onPair r 1 (fun p t => t.answer r (t.uncoupleStatus p) [] (State.uncouplePair p))

/-- UNCOUPLE. -/
def execUncouple (tag : Byte) (payload : List Byte) (s : State) : Host.Outcome State Fault Refusal :=
  execRequest { kind := 0x25, tag := tag, payload := payload }
    (State.uncouple { kind := 0x25, tag := tag, payload := payload }) s

/-! ## CLEAR_FAULTS and SET_MASK (R146, R148) -/

/-- The code and the cause of a summary, 0xFF for none (R130, R150). -/
def entryCodes : Option Entry → List Byte
  | none => [0xFF, 0xFF]
  | some e => [byteOf e.code, byteOf e.causeCode]

/-- CLEAR_FAULTS (R127, R146); the reply carries the summary that the clearing leaves. -/
def State.clearRequest (r : Request) (s : State) : State :=
  s.onChannel r 1 (fun c t =>
    t.answer r (if (t.ch c).state.configured then .ok else .badState)
      (entryCodes ((t.clearFaults c).ch c).record.summary) (State.clearFaults c))

/-- CLEAR_FAULTS. -/
def execClearFaults (tag : Byte) (payload : List Byte) (s : State) : Host.Outcome State Fault Refusal :=
  execRequest { kind := 0x26, tag := tag, payload := payload }
    (State.clearRequest { kind := 0x26, tag := tag, payload := payload }) s

/-- The mask threshold of a channel, or of both channels of its coupled pair, is set (R127, R148). -/
def State.writeMask (mask : Nat) (c : ChannelId) (s : State) : State :=
  s.forEach (s.group c) (fun g t => t.modCh g (fun x => { x with faults := { x.faults with mask := mask } }))

/-- SET_MASK (R148). -/
def State.setMask (r : Request) (s : State) : State :=
  s.onChannel r 2 (fun c t =>
    t.answer r (if 2 ≤ r.at 1 ∧ r.at 1 ≤ 5 then .ok else .badValue) [] (State.writeMask (r.at 1) c))

/-- SET_MASK. -/
def execSetMask (tag : Byte) (payload : List Byte) (s : State) : Host.Outcome State Fault Refusal :=
  execRequest { kind := 0x27, tag := tag, payload := payload }
    (State.setMask { kind := 0x27, tag := tag, payload := payload }) s

/-! ## FLUSH_SETPOINTS (R91) -/

/-- FLUSH_SETPOINTS: the queue that serves the channel is flushed (R91, R129). -/
def State.flushSetpoints (r : Request) (s : State) : State :=
  s.onChannel r 1 (fun c t =>
    t.answer r (if (t.ch c).state.configured then .ok else .badState) []
      (fun u => u.modCh (u.leader c) Channel.flush))

/-- FLUSH_SETPOINTS. -/
def execFlushSetpoints (tag : Byte) (payload : List Byte) (s : State) : Host.Outcome State Fault Refusal :=
  execRequest { kind := 0x28, tag := tag, payload := payload }
    (State.flushSetpoints { kind := 0x28, tag := tag, payload := payload }) s

/-! ## CHANNEL_RESET and DEVICE_RESET (R77, R196) -/

/-- CHANNEL_RESET (R77, R129). -/
def State.channelReset (r : Request) (s : State) : State :=
  s.onChannel r 1 (fun c t => t.answer r (if t.isCoupled c then .coupled else .ok) [] (State.resetChannel c))

/-- CHANNEL_RESET. -/
def execChannelReset (tag : Byte) (payload : List Byte) (s : State) : Host.Outcome State Fault Refusal :=
  execRequest { kind := 0x38, tag := tag, payload := payload }
    (State.channelReset { kind := 0x38, tag := tag, payload := payload }) s

/-- DEVICE_RESET: its OK reply is queued, and the dispatcher stops until the reset takes effect (R184, R196). -/
def State.awaitReset (r : Request) (s : State) : State :=
  { s.enqueue { cls := .reply, kind := replyKind r.kind, tag := r.tag, payload := [Status.ok.code], endsReset := true } with
    resetAwaited := true }

/-- DEVICE_RESET (R189, R196). -/
def State.requestReset (r : Request) (s : State) : State := s.onNothing r (State.awaitReset r)

/-- DEVICE_RESET. -/
def execDeviceReset (tag : Byte) (payload : List Byte) (s : State) : Host.Outcome State Fault Refusal :=
  execRequest { kind := 0x39, tag := tag, payload := payload }
    (State.requestReset { kind := 0x39, tag := tag, payload := payload }) s

/-! ## CONFIGURE_BUS (R155, R156) -/

/-- The status of a CONFIGURE_BUS (R156). -/
def State.busStatus (s : State) (p : BusProfile) (supportByte : Nat) : Status :=
  if s.bus.ride ≠ .normal then .rideThrough
  else if 9 < supportByte ∧ supportByte ≠ 255 then .badChannel
  else if !p.ordered then .badValue
  else
    match p.support with
    | none => .ok
    | some c => if (s.ch c).kind = .spindle then .ok else .badValue

/-- CONFIGURE_BUS (R155, R156). -/
def State.configureBus (r : Request) (s : State) : State :=
  match busProfileOf r.payload with
  | none => s.refuse r.kind r.tag .badLength
  | some (p, supportByte) => s.answer r (s.busStatus p supportByte) [] (State.takeBusProfile p)

/-- CONFIGURE_BUS. -/
def execConfigureBus (tag : Byte) (payload : List Byte) (s : State) : Host.Outcome State Fault Refusal :=
  execRequest { kind := 0x13, tag := tag, payload := payload }
    (State.configureBus { kind := 0x13, tag := tag, payload := payload }) s

/-! ## CONFIGURE_INPUTS (R177) -/

/-- The status of a CONFIGURE_INPUTS (R177). -/
def State.inputsStatus (s : State) (rs : List RawInput) : Status :=
  if !inputsNamed rs then .badValue
  else if !rs.all RawInput.valid then .badValue
  else if !rs.all RawInput.channelsExist then .badChannel
  else if s.endsSto (configureAll (rs.map RawInput.toRecord) s.inputs) then .badState
  else .ok

/-- The active states that a new configuration gives (R177). -/
def State.activeAfter (s : State) (records : List InputRecord) : Byte :=
  byteOf (State.activeStates { s with inputs := configureAll records s.inputs })

/-- The records of a CONFIGURE_INPUTS payload, 1 to 8 of them (12.6.3). -/
def inputPayload (payload : List Byte) : Option (List RawInput) :=
  if payload.length = 0 ∨ 56 < payload.length then none else inputRecords payload

/-- CONFIGURE_INPUTS (R177). -/
def State.configureInputs (r : Request) (s : State) : State :=
  match inputPayload r.payload with
  | none => s.refuse r.kind r.tag .badLength
  | some rs =>
    s.answer r (s.inputsStatus rs) [s.activeAfter (rs.map RawInput.toRecord)]
      (State.takeInputs (rs.map RawInput.toRecord))

/-- CONFIGURE_INPUTS. -/
def execConfigureInputs (tag : Byte) (payload : List Byte) (s : State) : Host.Outcome State Fault Refusal :=
  execRequest { kind := 0x14, tag := tag, payload := payload }
    (State.configureInputs { kind := 0x14, tag := tag, payload := payload }) s

/-! ## CONFIGURE_REPORTS (R192) and CONFIGURE_LINK (R185) -/

/-- The values a telemetry divisor may have, 0 for OFF (R192). -/
def divisorValues : List Nat := [0, 1, 2, 4, 5, 8, 10, 16, 20, 50, 100, 200]

/-- The divisors of the ten channels are values of R192. -/
def Request.divisorsValid (r : Request) : Bool := allChannels.all (fun c => divisorValues.contains (r.at c.val))

/-- A channel takes a divisor, and its countdown starts at it or stops (R192). -/
def Channel.setDivisor (divisor : Nat) (x : Channel) : Channel :=
  { x with divisor := divisor, countdown := startCountdown divisor }

/-- The effect of a CONFIGURE_REPORTS (R192). -/
def State.takeReports (r : Request) (s : State) : State :=
  let t := s.forEach allChannels (fun c u => u.modCh c (Channel.setDivisor (r.at c.val)))
  { t with report := { t.report with enables := r.payload.getD 10 0 } }

/-- CONFIGURE_REPORTS (R192). -/
def State.configureReports (r : Request) (s : State) : State :=
  if r.payload.length = 11 then
    s.answer r (if r.divisorsValid then .ok else .badValue) [] (State.takeReports r)
  else s.refuse r.kind r.tag .badLength

/-- CONFIGURE_REPORTS. -/
def execConfigureReports (tag : Byte) (payload : List Byte) (s : State) : Host.Outcome State Fault Refusal :=
  execRequest { kind := 0x15, tag := tag, payload := payload }
    (State.configureReports { kind := 0x15, tag := tag, payload := payload }) s

/-- CONFIGURE_LINK (R185). -/
def State.configureLink (r : Request) (s : State) : State :=
  if r.payload.length = 1 then s.answer r .ok [] (State.setTLink (r.at 0))
  else s.refuse r.kind r.tag .badLength

/-- CONFIGURE_LINK. -/
def execConfigureLink (tag : Byte) (payload : List Byte) (s : State) : Host.Outcome State Fault Refusal :=
  execRequest { kind := 0x16, tag := tag, payload := payload }
    (State.configureLink { kind := 0x16, tag := tag, payload := payload }) s

end Sys2Proof.Machine
end

