-- ==== Sys2Proof/Machine/Queries.lean ====
section
/-! DEFINITION. The queries (R150, R169, R178, R195) with the layouts of 12.6.8, BAD_KIND (R189), and the dispatcher's
choice of what a request does. -/

namespace Sys2Proof.Machine

/-! ## IDENTIFY (R195) -/

/-- What IDENTIFY reports (12.6.8). -/
def State.identity (s : State) : List Byte :=
  le16 Config.vendorCode ++ le16 Config.partCode ++ [byteOf Config.revision, 10, s.resetCause.code] ++
    le32 (s.msSince s.resetAt)

/-- IDENTIFY (R195). -/
def State.identify (r : Request) (s : State) : State := s.onNothing r (fun t => t.answer r .ok t.identity id)

/-- IDENTIFY. -/
def execIdentify (tag : Byte) (payload : List Byte) (s : State) : Host.Outcome State Fault Refusal :=
  execRequest { kind := 0x10, tag := tag, payload := payload }
    (State.identify { kind := 0x10, tag := tag, payload := payload }) s

/-! ## QUERY_CHANNEL (R195) -/

/-- The condition of an engine slot, COMPUTING where the engine holds a computation for the channel (R41). -/
def State.slotCode (s : State) (c : ChannelId) : Byte :=
  match s.engine, (s.ch c).eng.slot with
  | some k, slot =>
    if k.request.channel = c then 3
    else
      match slot with
      | .empty => 0
      | .waiting _ => 1
      | .expired _ => 2
  | none, .empty => 0
  | none, .waiting _ => 1
  | none, .expired _ => 2

/-- Three compare values. -/
def Compare.bytes (v : Compare) : List Byte := le16 v.a ++ le16 v.b ++ le16 v.c

/-- What the channel controller reports (12.6.8). -/
def Channel.reportController (c : ChannelId) (x : Channel) : List Byte :=
  [byteOf c.val, x.kind.code, x.state.byte, byteOf (bitsToNat [x.op.busy, x.op.done]), opCode x.op.inProgress,
    opCode (x.op.last.map Prod.fst), outcomeCode (x.op.last.map Prod.snd), x.stop.brakeEnd.code,
    x.cal.condition.code] ++ le16 x.cal.count

/-- What the blocks of Chapter 1 report. -/
def Channel.reportTimebase (x : Channel) : List Byte :=
  le16 x.tb.period.toNat ++ x.tb.compare.bytes ++ x.loopState.lastStaged.bytes ++ [yesNo x.sample.driverAsserted] ++
    le32 x.pos.latched.toNat ++ le32s x.pos.omega ++ le16 x.pos.theta ++ le16 x.pos.illegal

/-- What the loop and the engine report. -/
def Channel.reportLoop (slot : Byte) (x : Channel) : List Byte :=
  le32s x.loopState.intD ++ le32s x.loopState.intQ ++ le16s x.loopState.vd ++ le16s x.loopState.vq ++
    [byteOf (bitsToNat [x.loopState.clampD, x.loopState.clampQ]), slot, byteOf x.eng.consecutiveLate] ++
    le16 x.eng.latePeriods ++ le16 x.eng.replaced ++ le16 x.eng.discarded

/-- The apply-at of an end of the queue, 0 for an empty queue. -/
def applyAtOf : Option Setpoint → Nat
  | none => 0
  | some r => r.applyAt.toNat

/-- What the setpoint queue reports. -/
def SetpointQueue.report (q : SetpointQueue) : List Byte :=
  [byteOf q.records.length] ++ le16 (applyAtOf q.records.head?) ++ le16 (applyAtOf q.records.getLast?) ++
    le16s q.baseId ++ le16s q.baseIq ++ le16 q.starvation ++ [yesNo q.starved] ++ le16 q.taken ++ le16 q.late ++
    le16 q.revised ++ le16 q.refusedFull ++ le16 q.refusedCoupled ++ le16 q.dropped

/-- The cap in force, 0xFFFF for none. -/
def capValue : Option Nat → Nat
  | none => 0xFFFF
  | some k => k

/-- What the reference path reports. -/
def RefPath.report (x : RefPath) : List Byte :=
  le16s x.baseId ++ le16s x.baseIq ++ le16s x.appliedId ++ le16s x.appliedIq ++ [byteOf x.flags.toNat] ++
    le16 (capValue x.cap) ++ [byteOf (bitsToNat x.containing)] ++ le32 x.accumulator ++
    [byteOf (bitsToNat [x.derate, x.tripped])]

/-- What the pair coupler reports to a channel with this role. -/
def Pair.report (master : Bool) (k : Pair) : List Byte :=
  [yesNo k.coupled, yesNo (!master)] ++ le16 k.kskew ++ le16 k.corrMax ++ le32 k.skewLimit ++ le32 k.skewOffset.toNat ++
    le32s k.delta ++ le16s k.corr ++ [yesNo k.skewHolds]

/-- The channel query (12.6.8). -/
def State.channelReport (s : State) (c : ChannelId) : List Byte :=
  let x := s.ch c
  x.reportController c ++ x.reportTimebase ++ x.reportLoop (s.slotCode c) ++ x.queue.report ++ x.ref.report ++
    (s.pair (pairOf c)).report (isMaster c) ++ [byteOf x.divisor]

/-- QUERY_CHANNEL (R195). -/
def State.queryChannel (r : Request) (s : State) : State :=
  s.onChannel r 1 (fun c t => t.answer r .ok (t.channelReport c) id)

/-- QUERY_CHANNEL. -/
def execQueryChannel (tag : Byte) (payload : List Byte) (s : State) : Host.Outcome State Fault Refusal :=
  execRequest { kind := 0x30, tag := tag, payload := payload }
    (State.queryChannel { kind := 0x30, tag := tag, payload := payload }) s

/-! ## QUERY_FAULTS (R150) -/

/-- An entry with its condition, as in the pending list (12.6.8). -/
def State.entryReport (s : State) (c : ChannelId) (e : Entry) : List Byte :=
  entryCodes (some e) ++ [yesNo (s.conditionHolds c e)]

/-- The active source with its condition. For none the codes are 0xFF, and the condition, to which the spec gives no
value, is ENDED or HOLDS by the low bit of a free value (DESIGN CHOICE, log 42). -/
def State.activeReport (s : State) (c : ChannelId) : List Byte :=
  match (s.ch c).record.active with
  | none => [0xFF, 0xFF, Config.freeByte s.free &&& 1]
  | some e => s.entryReport c e

/-- The first-fault record, 16 bytes (12.6.8). -/
def firstReport : Option FirstFault → List Byte
  | none => [0xFF, 0xFF] ++ List.replicate 14 0
  | some f =>
    entryCodes (some f.entry) ++ le16 f.period.toNat ++ le16s f.ia ++ le16s f.ib ++ le16 f.udc ++ le32s f.omega ++
      le16s f.appliedIq

/-- The fault query (12.6.8). -/
def State.faultReport (s : State) (c : ChannelId) : List Byte :=
  let x := s.ch c
  entryCodes x.record.summary ++ s.activeReport c ++ le16 x.record.seen.toNat ++ [yesNo x.record.first.isSome] ++
    firstReport x.record.first ++ x.faults.body ++ [byteOf x.record.pending.length] ++
    x.record.pending.flatMap (s.entryReport c)

/-- QUERY_FAULTS (R150); it uses up one free value (log 42). -/
def State.queryFaults (r : Request) (s : State) : State :=
  s.onChannel r 1 (fun c t => t.answer r .ok (t.faultReport c) (fun u => { u with free := u.free + 1 }))

/-- QUERY_FAULTS. -/
def execQueryFaults (tag : Byte) (payload : List Byte) (s : State) : Host.Outcome State Fault Refusal :=
  execRequest { kind := 0x31, tag := tag, payload := payload }
    (State.queryFaults { kind := 0x31, tag := tag, payload := payload }) s

/-! ## QUERY_BUS (R169) -/

/-- The profile fields of the bus query, 0 with support channel 0xFF while none is held (12.6.8). -/
def profileReport : Option BusProfile → List Byte
  | none => List.replicate 12 0 ++ [0xFF] ++ List.replicate 8 0
  | some p =>
    le16 p.udcNom ++ [byteOf p.uvIndex, byteOf p.tUv] ++ le16 p.uOv ++ le16 p.uOn ++ le16 p.uOff ++ le16 p.tRide ++
      [supportByte p.support] ++ le16 p.uSupport ++ le16 p.kbus ++ le16 p.isupMax ++ le16 p.uUv

/-- The time since entry into RIDE_THROUGH, 0 in NORMAL (12.6.8). -/
def State.rideElapsed (s : State) : Nat := if s.bus.ride = .normal then 0 else s.msSince s.bus.rideEnteredAt

/-- The time remaining on the ride timer, 0 while it is stopped (12.6.8). -/
def State.rideRemaining (s : State) : Nat :=
  match s.bus.rideTimer with
  | none => 0
  | some moment => s.msUntil moment

/-- The bus query (12.6.8). The time since entry into RIDE_THROUGH wraps modulo 2^32 ms, as its four bytes hold it (DESIGN
CHOICE, log 53). -/
def State.busReport (s : State) : List Byte :=
  let b := s.bus
  le16 b.latest ++ [yesNo b.profile.isSome] ++ profileReport b.profile ++ [yesNo b.chopperOn] ++ le16 b.turnOns ++
    [yesNo b.ovOpen] ++ le16 b.ovCount ++ [yesNo b.uvSet, byteOf b.uvDebounce] ++ le16 b.uvCount ++
    [yesNo b.mainsAsserted, b.ride.code] ++ le32 s.rideElapsed ++ le16 s.rideRemaining ++ le16 b.ridesBegun ++
    le16 b.ridesExpired ++ le16s b.supportCurrent

/-- QUERY_BUS (R169). -/
def State.queryBus (r : Request) (s : State) : State := s.onNothing r (fun t => t.answer r .ok t.busReport id)

/-- QUERY_BUS. -/
def execQueryBus (tag : Byte) (payload : List Byte) (s : State) : Host.Outcome State Fault Refusal :=
  execRequest { kind := 0x32, tag := tag, payload := payload }
    (State.queryBus { kind := 0x32, tag := tag, payload := payload }) s

/-! ## QUERY_INPUTS (R178) -/

/-- The assignment of a function; for GENERAL a free value, bytes `free` and the one after it (log 9). -/
def InputFunction.assignment (free : Nat) : InputFunction → List Byte
  | .general => [Config.freeByte free, Config.freeByte (free + 1)]
  | .limitPos c => le16 c.val
  | .limitNeg c => le16 c.val
  | .sto channels => le16 channels.toNat

/-- One input of the input query (12.6.8). -/
def Input.report (free : Nat) (x : Input) : List Byte :=
  [yesNo x.activeLow, x.function.code] ++ x.function.assignment free ++
    [byteOf x.filterLength, x.notice.code, yesNo x.high, yesNo x.active, byteOf x.filterCount] ++ le16 x.changes

/-- The STO conditions of the ten channels, bit c for channel c (R178). An unconfigured channel has none (R174, R175). -/
def State.stoConditions (s : State) : Nat :=
  bitsToNat (allChannels.map (fun c => (s.ch c).state.configured && stoHolds s.inputs c))

/-- The input query (12.6.8). -/
def State.inputReport (s : State) : List Byte :=
  allInputs.flatMap (fun i => (s.input i).report (s.free + 2 * i.val)) ++ le16 s.stoConditions

/-- QUERY_INPUTS (R178); the free values of eight assignments are used up (log 9). -/
def State.queryInputs (r : Request) (s : State) : State :=
  s.onNothing r (fun t => t.answer r .ok t.inputReport (fun u => { u with free := u.free + 16 }))

/-- QUERY_INPUTS. -/
def execQueryInputs (tag : Byte) (payload : List Byte) (s : State) : Host.Outcome State Fault Refusal :=
  execRequest { kind := 0x33, tag := tag, payload := payload }
    (State.queryInputs { kind := 0x33, tag := tag, payload := payload }) s

/-! ## QUERY_LINK (R195) -/

/-- The eleven counts (R188). -/
def LinkCounts.bytes (n : LinkCounts) : List Byte :=
  le16 n.good ++ le16 n.crc ++ le16 n.length ++ le16 n.gap ++ le16 n.framing ++ le16 n.malformed ++
    le16 n.badChannel ++ le16 n.busy ++ le16 n.lostBusy ++ le16 n.telemetryDropped ++ le16 n.watchdogExpiries

/-- The watchdog state (12.6.8). -/
def Watchdog.code : Watchdog → Byte
  | .off => 0
  | .running _ => 1
  | .expired => 2

/-- The time remaining to the watchdog's expiry, 0 unless RUNNING (12.6.8). -/
def State.watchdogRemaining (s : State) : Nat :=
  match s.link.watchdog with
  | .running moment => s.msUntil moment
  | _ => 0

/-- The link query (12.6.8); the fills are those the execution finds (log 14). -/
def State.linkReport (s : State) : List Byte :=
  s.link.counts.bytes ++
    [s.link.watchdog.code, byteOf s.link.tLink, byteOf s.watchdogRemaining, byteOf s.commands.length,
      byteOf s.report.fill, yesNo s.report.eventsLost]

/-- The events-lost flag is cleared (R187). -/
def State.clearLost (s : State) : State := { s with report := { s.report with eventsLost := false } }

/-- QUERY_LINK (R187, R195). -/
def State.queryLink (r : Request) (s : State) : State :=
  s.onNothing r (fun t => t.answer r .ok t.linkReport State.clearLost)

/-- QUERY_LINK. -/
def execQueryLink (tag : Byte) (payload : List Byte) (s : State) : Host.Outcome State Fault Refusal :=
  execRequest { kind := 0x34, tag := tag, payload := payload }
    (State.queryLink { kind := 0x34, tag := tag, payload := payload }) s

/-! ## BAD_KIND, and the dispatcher's choice (R189) -/

/-- A request of unknown kind is answered BAD_KIND, its payload unexamined (R189). -/
def State.refuseKind (r : Request) (s : State) : State := s.refuse r.kind r.tag .badKind

/-- BAD_KIND (R189); a kind that is a request kind, or SETPOINT, which never enters the command queue, is none. -/
def execBadKind (kind tag : Byte) (payload : List Byte) (s : State) : Host.Outcome State Fault Refusal :=
  .next (if requestKinds.contains kind || kind == setpointKind then s
    else s.live (State.serve { kind := kind, tag := tag, payload := payload }
      (State.refuseKind { kind := kind, tag := tag, payload := payload })))

/-- What a request does, by its kind (12.6.2, R189). -/
def Request.act (r : Request) : State → State :=
  if r.kind = 0x10#8 then State.identify r
  else if r.kind = 0x11#8 then State.loadProfile r
  else if r.kind = 0x12#8 then State.readProfile r
  else if r.kind = 0x13#8 then State.configureBus r
  else if r.kind = 0x14#8 then State.configureInputs r
  else if r.kind = 0x15#8 then State.configureReports r
  else if r.kind = 0x16#8 then State.configureLink r
  else if r.kind = 0x20#8 then State.enable r
  else if r.kind = 0x21#8 then State.disable r
  else if r.kind = 0x22#8 then State.calibrate r
  else if r.kind = 0x23#8 then State.cancelOperation r
  else if r.kind = 0x24#8 then State.couple r
  else if r.kind = 0x25#8 then State.uncouple r
  else if r.kind = 0x26#8 then State.clearRequest r
  else if r.kind = 0x27#8 then State.setMask r
  else if r.kind = 0x28#8 then State.flushSetpoints r
  else if r.kind = 0x30#8 then State.queryChannel r
  else if r.kind = 0x31#8 then State.queryFaults r
  else if r.kind = 0x32#8 then State.queryBus r
  else if r.kind = 0x33#8 then State.queryInputs r
  else if r.kind = 0x34#8 then State.queryLink r
  else if r.kind = 0x38#8 then State.channelReset r
  else if r.kind = 0x39#8 then State.requestReset r
  else State.refuseKind r

/-- With no command waiting, the dispatcher executes the head of the command queue where it may, and else one cycle
of the reference clock passes (R184; DESIGN CHOICE, log 3). -/
def State.idle (s : State) : State :=
  match s.commands with
  | [] => { s with now := s.now + 1 }
  | r :: _ => if s.mayServe r && !s.resetHeld then s.serve r r.act else { s with now := s.now + 1 }

end Sys2Proof.Machine
end

