-- ==== Sys2Proof/Machine/Sampling.lean ====
section
/-! DEFINITION. The sample unit and the position interface between valleys: conversion completions with the offset
calibration (R9 to R11, R72), encoder samples (R13, R14) and the gate-driver fault line (R12). -/

namespace Sys2Proof.Machine

/-! ## Conversion completions -/

/-- A current of a raw sample (R10). -/
def current (raw : BitVec 12) (offset : Nat) : Int := clampSym 32767 (16 * ((raw.toNat : Int) - offset))

/-- The trip condition of three currents (R11). -/
def trips (ia ib ic : Int) (itrip : Nat) : Bool :=
  decide (itrip ≤ ia.natAbs) || decide (itrip ≤ ib.natAbs) || decide (itrip ≤ ic.natAbs)

/-- The latest currents and the trip flag of a completion (R10, R11). -/
def Channel.measureCurrents (r : RawSample) (x : Channel) : Channel :=
  let ia := current r.rawA x.sensing.offA
  let ib := current r.rawB x.sensing.offB
  let ic := clampSym 32767 (-ia - ib)
  { x with sample :=
    { x.sample with converting := false, ia := ia, ib := ib, ic := ic, trip := trips ia ib ic x.sensing.itrip } }

/-- One sample enters the calibration sums (R72). -/
def Channel.addSample (r : RawSample) (x : Channel) : Channel :=
  { x with cal :=
    { x.cal with sumA := x.cal.sumA + r.rawA.toNat, sumB := x.cal.sumB + r.rawB.toNat, count := x.cal.count + 1 } }

/-- The average of 1024 samples (R72): half-up division by 2^10. -/
def average (sum : Nat) : Nat := (halfUp 10 sum).toNat

/-- The averages become the offsets (R72), the one pair of values that a SENSING block also writes (R10); READ_PROFILE
so returns them from then on as the SENSING values last taken (R191; DEDUCED, log 49). -/
def Channel.takeOffsets (x : Channel) : Channel :=
  { x with sensing := { x.sensing with offA := average x.cal.sumA, offB := average x.cal.sumB } }

/-- The calibration completes: offsets, DISABLED, CALIBRATED event (R72). -/
def State.completeCalibration (c : ChannelId) (s : State) : State :=
  let offA := average (s.ch c).cal.sumA
  let offB := average (s.ch c).cal.sumB
  ((s.modCh c (fun x => x.takeOffsets.clearCalibration)).enterDisabled c .completed).emit (.calibrated c offA offB)

/-- A completion in CALIBRATING (R72). -/
def State.calibrationSample (r : RawSample) (s : State) : State :=
  let t := s.modCh r.channel (Channel.addSample r)
  if 1024 ≤ (t.ch r.channel).cal.count then t.completeCalibration r.channel else t

/-- What a completion hands on, by the channel's state at that moment (R9). -/
def State.handOff (r : RawSample) (s : State) : State :=
  if (s.ch r.channel).state.computes then s.modCh r.channel (Channel.formRequest r.channel)
  else if (s.ch r.channel).state = .calibrating then s.calibrationSample r
  else s

/-- OVERCURRENT is raised where the trip condition newly holds (R11). -/
def State.raiseTrip (c : ChannelId) (before : Bool) (s : State) : State :=
  if (s.ch c).sample.trip && !before then s.raise c .overcurrent else s

/-- The moment of a channel's conversion completion, 1.0 µs after its valley (R9). -/
def Channel.convertedAt (x : Channel) : Nat := x.tb.periodStart + Config.cyclesPerUs

/-- One conversion completes: currents, trip check, hand-off, in this order (R9, R11; order log 27); a discarded
conversion does nothing (R18). -/
def State.completeConversion (r : RawSample) (s : State) : State :=
  let x := s.ch r.channel
  if x.sample.converting && x.state.configured then
    (((s.reach x.convertedAt).modCh r.channel (Channel.measureCurrents r)).raiseTrip r.channel x.sample.trip).handOff r
  else s

/-- The conversions of one moment complete, and one grant is made among their requests (R44; order log 21). -/
def State.completeConversions (samples : List RawSample) (s : State) : State :=
  (samples.foldl (fun t r => t.completeConversion r) s).grant

/-- CONVERSION_COMPLETION (R9). -/
def execConversionCompletion (samples : List RawSample) (s : State) : Host.Outcome State Fault Refusal :=
  .next (s.live (State.completeConversions samples))

/-! ## The encoder -/

/-- The place of a pair of tracks in the cycle 00, 01, 11, 10 (R13). -/
def cycleIndex (a b : Bool) : Nat :=
  match a, b with
  | false, false => 0
  | false, true => 1
  | true, true => 2
  | true, false => 3

/-- How far a pair of samples stands ahead of the previous pair in the cycle: 1 a forward step, 3 a backward step, 2
an illegal transition (R13, R14). -/
def cycleDistance (old new : Bool × Bool) : Nat := (cycleIndex new.1 new.2 + 4 - cycleIndex old.1 old.2) % 4

/-- One encoder step moves the count by the direction in force (R13). -/
def Channel.countStep (forward : Bool) (x : Channel) : Channel :=
  { x with pos :=
    { x.pos with count := if forward != x.encoder.inverted then x.pos.count + 1 else x.pos.count - 1 } }

/-- The decoder keeps a pair of samples (R13). -/
def Channel.setTracks (tracks : Bool × Bool) (x : Channel) : Channel :=
  { x with pos := { x.pos with tracks := some tracks } }

/-- An illegal transition is counted (R14). -/
def Channel.countIllegal (x : Channel) : Channel := { x with pos := { x.pos with illegal := satInc x.pos.illegal } }

/-- An illegal transition is counted, and raises ENCODER on a configured channel (R14). -/
def State.illegal (c : ChannelId) (s : State) : State :=
  (s.modCh c Channel.countIllegal).raise c .encoder

/-- A pair of samples is compared with the previous pair (R13, R14, R18). R13 has one pair on every cycle: that the
clock stands still at a pair given as a command is a DESIGN CHOICE (log 54). -/
def State.encoderSample (c : ChannelId) (tracks : Bool × Bool) (s : State) : State :=
  let t := s.modCh c (Channel.setTracks tracks)
  match (s.ch c).pos.tracks with
  | none => t
  | some old =>
    match cycleDistance old tracks with
    | 0 => t
    | 1 => t.modCh c (Channel.countStep true)
    | 2 => t.illegal c
    | _ => t.modCh c (Channel.countStep false)

/-- ENCODER_STEP (R13; log 16). -/
def execEncoderStep (c : ChannelId) (a b : Bool) (s : State) : Host.Outcome State Fault Refusal :=
  .next (s.live (State.encoderSample c (a, b)))

/-- The pair of samples after both tracks have changed (log 16). -/
def Position.flipTracks (x : Position) : Position :=
  { x with tracks := x.tracks.map (fun t => (!t.1, !t.2)) }

/-- Both tracks change at once (R14); the clock stands still (DESIGN CHOICE, log 54). -/
def State.illegalTransition (c : ChannelId) (s : State) : State :=
  (s.modCh c (fun x => { x with pos := x.pos.flipTracks })).illegal c

/-- ILLEGAL_TRANSITION (R14). -/
def execIllegalTransition (c : ChannelId) (s : State) : Host.Outcome State Fault Refusal :=
  .next (s.live (State.illegalTransition c))

/-! ## The gate-driver fault line -/

/-- Agreeing samples of the gate-driver line (R12; DESIGN CHOICE, log 15): two take a new filtered level, and one that
becomes asserted on a configured channel raises DRIVER. No moment of the 1 µs samples is kept, and the clock stands
still (DESIGN CHOICE, log 54). -/
def State.driverLine (c : ChannelId) (asserted : Bool) (agreeing : Nat) (s : State) : State :=
  if 2 ≤ agreeing ∧ (s.ch c).sample.driverAsserted ≠ asserted then
    let t := s.modCh c (fun x => { x with sample := { x.sample with driverAsserted := asserted } })
    if asserted then t.raise c .driver else t.settle c
  else s

/-- GATE_DRIVER_LINE_CHANGE (R12). -/
def execGateDriverLineChange (c : ChannelId) (asserted : Bool) (agreeing : Nat) (s : State) :
    Host.Outcome State Fault Refusal :=
  .next (s.live (State.driverLine c asserted agreeing))

end Sys2Proof.Machine
end

