-- ==== Sys2Proof/Machine/Dispatch.lean ====
section
/-! DEFINITION. One arm for each command. -/

namespace Sys2Proof.Machine

-- What a command does to everything but the queue of waiting commands.
def exec (i : Instr) (s : State) : Host.Outcome State Fault Refusal :=
  match i with
  | .powerOn => Sys2Proof.Machine.execPowerOn s
  | .resetLineAssert => Sys2Proof.Machine.execResetLineAssert s
  | .resetLineRelease => Sys2Proof.Machine.execResetLineRelease s
  | .deviceResetTakesEffect => Sys2Proof.Machine.execDeviceResetTakesEffect s
  | .valley c => Sys2Proof.Machine.execValley c s
  | .peak c => Sys2Proof.Machine.execPeak c s
  | .conversionCompletion samples => Sys2Proof.Machine.execConversionCompletion samples s
  | .engineCompletion => Sys2Proof.Machine.execEngineCompletion s
  | .encoderStep c a b => Sys2Proof.Machine.execEncoderStep c a b s
  | .illegalTransition c => Sys2Proof.Machine.execIllegalTransition c s
  | .gateDriverLineChange c asserted agreeing => Sys2Proof.Machine.execGateDriverLineChange c asserted agreeing s
  | .chargeTimerExpiry c => Sys2Proof.Machine.execChargeTimerExpiry c s
  | .parkTimerExpiry c => Sys2Proof.Machine.execParkTimerExpiry c s
  | .brakeTimerExpiry c => Sys2Proof.Machine.execBrakeTimerExpiry c s
  | .holdoffTimerExpiry c => Sys2Proof.Machine.execHoldoffTimerExpiry c s
  | .dcLinkSample raw => Sys2Proof.Machine.execDcLinkSample raw s
  | .mainsFailChange asserted agreeing => Sys2Proof.Machine.execMainsFailChange asserted agreeing s
  | .rideTimerExpiry => Sys2Proof.Machine.execRideTimerExpiry s
  | .inputFilteredChange n high => Sys2Proof.Machine.execInputFilteredChange n high s
  | .setpoint tag payload => Sys2Proof.Machine.execSetpoint tag payload s
  | .requestTelegram kind tag payload => Sys2Proof.Machine.execRequestTelegram kind tag payload s
  | .crcError => Sys2Proof.Machine.execCrcError s
  | .lengthError length => Sys2Proof.Machine.execLengthError length s
  | .gapError => Sys2Proof.Machine.execGapError s
  | .framingError => Sys2Proof.Machine.execFramingError s
  | .linkWatchdogExpiry => Sys2Proof.Machine.execLinkWatchdogExpiry s
  | .transmitEnd => Sys2Proof.Machine.execTransmitEnd s
  | .badKind kind tag payload => Sys2Proof.Machine.execBadKind kind tag payload s
  | .identify tag payload => Sys2Proof.Machine.execIdentify tag payload s
  | .loadProfile tag payload => Sys2Proof.Machine.execLoadProfile tag payload s
  | .readProfile tag payload => Sys2Proof.Machine.execReadProfile tag payload s
  | .configureBus tag payload => Sys2Proof.Machine.execConfigureBus tag payload s
  | .configureInputs tag payload => Sys2Proof.Machine.execConfigureInputs tag payload s
  | .configureReports tag payload => Sys2Proof.Machine.execConfigureReports tag payload s
  | .configureLink tag payload => Sys2Proof.Machine.execConfigureLink tag payload s
  | .enable tag payload => Sys2Proof.Machine.execEnable tag payload s
  | .disable tag payload => Sys2Proof.Machine.execDisable tag payload s
  | .calibrate tag payload => Sys2Proof.Machine.execCalibrate tag payload s
  | .cancelOperation tag payload => Sys2Proof.Machine.execCancelOperation tag payload s
  | .couple tag payload => Sys2Proof.Machine.execCouple tag payload s
  | .uncouple tag payload => Sys2Proof.Machine.execUncouple tag payload s
  | .clearFaults tag payload => Sys2Proof.Machine.execClearFaults tag payload s
  | .setMask tag payload => Sys2Proof.Machine.execSetMask tag payload s
  | .flushSetpoints tag payload => Sys2Proof.Machine.execFlushSetpoints tag payload s
  | .queryChannel tag payload => Sys2Proof.Machine.execQueryChannel tag payload s
  | .queryFaults tag payload => Sys2Proof.Machine.execQueryFaults tag payload s
  | .queryBus tag payload => Sys2Proof.Machine.execQueryBus tag payload s
  | .queryInputs tag payload => Sys2Proof.Machine.execQueryInputs tag payload s
  | .queryLink tag payload => Sys2Proof.Machine.execQueryLink tag payload s
  | .channelReset tag payload => Sys2Proof.Machine.execChannelReset tag payload s
  | .deviceReset tag payload => Sys2Proof.Machine.execDeviceReset tag payload s
  | .byteArrival byte => Sys2Proof.Machine.execByteArrival byte s
  | .inputSampleEvent levels => Sys2Proof.Machine.execInputSampleEvent levels s
  | .prescaledClockTick c => Sys2Proof.Machine.execPrescaledClockTick c s

end Sys2Proof.Machine
end

