-- ==== Sys2Proof/Safety.lean ====
section
/-! DEFINITION. What a sound state of the part is, and the terms in which the statements speak: what a command leaves
alone, what it adds to the transmit queue, what a device reset leaves, and the layouts of 12.6. -/

namespace Sys2Proof.Machine

/-! ## What a command leaves alone -/

/-- Every channel outside a list is as before. -/
def State.OthersKept (cs : List ChannelId) (s t : State) : Prop := ∀ d, d ∉ cs → t.ch d = s.ch d

/-- The telegrams of the transmit queue in order of entry, the one on the line first (R186). -/
def Report.telegrams (r : Report) : List Telegram := (r.sending.map Sending.telegram).toList ++ r.waiting

/-- The number of telegrams of a class in the transmit queue. -/
def Report.countOf (cls : TelegramClass) (r : Report) : Nat := (r.telegrams.filter (fun t => t.cls == cls)).length

/-- The request that a row of the dispatcher executes; none for every other row, and for a BAD_KIND of a kind that is
known (R189). -/
def requestOf : Instr → Option Request
  | .badKind kind tag payload =>
    if requestKinds.contains kind || kind == setpointKind then none else some ⟨kind, tag, payload⟩
  | .identify tag payload => some ⟨0x10, tag, payload⟩
  | .loadProfile tag payload => some ⟨0x11, tag, payload⟩
  | .readProfile tag payload => some ⟨0x12, tag, payload⟩
  | .configureBus tag payload => some ⟨0x13, tag, payload⟩
  | .configureInputs tag payload => some ⟨0x14, tag, payload⟩
  | .configureReports tag payload => some ⟨0x15, tag, payload⟩
  | .configureLink tag payload => some ⟨0x16, tag, payload⟩
  | .enable tag payload => some ⟨0x20, tag, payload⟩
  | .disable tag payload => some ⟨0x21, tag, payload⟩
  | .calibrate tag payload => some ⟨0x22, tag, payload⟩
  | .cancelOperation tag payload => some ⟨0x23, tag, payload⟩
  | .couple tag payload => some ⟨0x24, tag, payload⟩
  | .uncouple tag payload => some ⟨0x25, tag, payload⟩
  | .clearFaults tag payload => some ⟨0x26, tag, payload⟩
  | .setMask tag payload => some ⟨0x27, tag, payload⟩
  | .flushSetpoints tag payload => some ⟨0x28, tag, payload⟩
  | .queryChannel tag payload => some ⟨0x30, tag, payload⟩
  | .queryFaults tag payload => some ⟨0x31, tag, payload⟩
  | .queryBus tag payload => some ⟨0x32, tag, payload⟩
  | .queryInputs tag payload => some ⟨0x33, tag, payload⟩
  | .queryLink tag payload => some ⟨0x34, tag, payload⟩
  | .channelReset tag payload => some ⟨0x38, tag, payload⟩
  | .deviceReset tag payload => some ⟨0x39, tag, payload⟩
  | .powerOn | .resetLineAssert | .resetLineRelease | .deviceResetTakesEffect | .valley _ | .peak _
  | .conversionCompletion _ | .engineCompletion | .encoderStep _ _ _ | .illegalTransition _
  | .gateDriverLineChange _ _ _ | .chargeTimerExpiry _ | .parkTimerExpiry _ | .brakeTimerExpiry _
  | .holdoffTimerExpiry _ | .dcLinkSample _ | .mainsFailChange _ _ | .rideTimerExpiry | .inputFilteredChange _ _
  | .setpoint _ _ | .requestTelegram _ _ _ | .crcError | .lengthError _ | .gapError | .framingError
  | .linkWatchdogExpiry | .transmitEnd | .byteArrival _ | .inputSampleEvent _ | .prescaledClockTick _ => none

/-- The dispatcher may execute this request now, in a part that no reset line holds (R184, R196). -/
def State.CanServe (s : State) (r : Request) : Prop := s.resetHeld = false ∧ s.mayServe r = true

/-- The command queue after a request has been executed: it has left where it stood at the head (R184). -/
def State.commandsAfter (s : State) (r : Request) : List Request :=
  if s.commands.head? = some r then s.commands.tail else s.commands

/-- The three commands that a part under an asserted reset line still meets (R196). -/
def isResetRow : Instr → Bool
  | .powerOn => true
  | .resetLineAssert => true
  | .resetLineRelease => true
  | _ => false

/-- Every block of the part stands at the reset values of its chapter, reached from `s` by a reset of this cause (R17,
R52, R78, R94, R114, R115, R152, R170, R178, R188, R196); the transmit queue apart. -/
def State.BlocksReset (cause : ResetCause) (s t : State) : Prop :=
  t.channels = Vector.replicate 10 Channel.reset ∧ t.pairs = Vector.replicate 5 Pair.reset ∧ t.engine = none ∧
    t.bus = { Bus.reset with sampledAt := t.now } ∧ t.inputs = Vector.replicate 8 Input.reset ∧
    t.link = Link.reset ∧ t.commands = [] ∧ t.resetAwaited = false ∧
    t.resetCause = cause ∧ t.resetAt = t.now ∧ t.pending = s.pending

/-- The transmit queue holds the RESET_DONE event alone, on the line (R196). -/
def State.ReportsReset (cause : ResetCause) (t : State) : Prop :=
  t.report.waiting = [] ∧ t.report.eventsLost = false ∧ t.report.enables = 0xFF#8 ∧
    ∃ w, t.report.sending = some w ∧ w.telegram.cls = .event ∧ w.telegram.kind = 0x40#8 ∧
      w.telegram.payload = [8, 0xFF, cause.code, 0x10, 0x4C, 1]

/-- The state after a request has been answered and has left the command queue, and nothing else has happened (R184,
R189). -/
def State.repliedTo (s : State) (r : Request) (status : Status) (content : List Byte) : State :=
  { s with
    report :=
      s.report.enter s.now
        { cls := .reply, kind := r.kind + 0x80, tag := r.tag, payload := status.code :: content, endsReset := false }
    commands := s.commandsAfter r }

/-- The payload length of the request kinds whose layout has one length (12.6.3). -/
def fixedLength (kind : Byte) : Option Nat :=
  if kind ∈ [0x10#8, 0x32, 0x33, 0x34, 0x39] then some 0
  else if kind ∈ [0x16#8, 0x20, 0x22, 0x23, 0x25, 0x26, 0x28, 0x30, 0x31, 0x38] then some 1
  else if kind ∈ [0x12#8, 0x21, 0x27] then some 2
  else if kind = 0x15#8 then some 11
  else if kind = 0x24#8 then some 13
  else if kind = 0x13#8 then some 19
  else none

/-- Bytes that whole blocks tile exactly: a type byte, a length byte and a body of that many bytes each (R190). -/
def Tiles (bytes : List Byte) : Prop :=
  ∃ blocks : List (Byte × List Byte), (∀ b ∈ blocks, b.2.length < 256) ∧
    bytes = blocks.flatMap (fun b => b.1 :: BitVec.ofNat 8 b.2.length :: b.2)

/-- How many channels or pairs the first payload byte of a request kind may name (12.6.3). -/
def namedRange (kind : Byte) : Option Nat :=
  if kind ∈ [0x12#8, 0x20, 0x21, 0x22, 0x23, 0x26, 0x27, 0x28, 0x30, 0x31, 0x38] then some 10
  else if kind ∈ [0x24#8, 0x25] then some 5
  else none

/-- Commands executed one after the other, stopping at the first that answers no next state. -/
def execAll : List Instr → State → Host.Outcome State Fault Refusal
  | [], s => .next s
  | c :: rest, s =>
    match exec c s with
    | .next t => execAll rest t
    | .fault f => .fault f
    | .refused f => .refused f

/-- The watchdog after the completion of a good telegram at a moment (R185). -/
def Link.watchdogAfter (k : Link) (now : Nat) : Watchdog :=
  match k.watchdog with
  | .off => .off
  | .running _ => .running (now + k.tLink * 80000)
  | .expired => .running (now + k.tLink * 80000)

/-- The transmit queue holds at most 32 telegrams, and none waits beside an idle line (R186). -/
def Report.Sound (r : Report) : Prop := r.fill ≤ 32 ∧ (r.sending = none → r.waiting = [])

/-- The link receiver after the completion of a good telegram at a moment: in HUNT, the telegram counted, the watchdog
restarted (R181, R183, R185). -/
def Link.afterGood (k : Link) (now : Nat) : Link :=
  { k with
    receiver := .hunt
    counts := { k.counts with good := min 65535 (k.counts.good + 1) }
    watchdog := k.watchdogAfter now }

/-- A payload is cut into so many whole entries: 9 bytes where bit 7 of the first is set, 7 where it is clear (12.6.4). -/
def DividesInto (n : Nat) (payload : List Byte) : Prop :=
  ∃ es : List (List Byte), es.length = n ∧ es.flatten = payload ∧
    ∀ e ∈ es, ∃ h rest, e = h :: rest ∧ e.length = if h.getLsbD 7 then 9 else 7

/-- The next byte on the inbound line arrives at this moment: now, or, where that is later, nine and a half bit times
after the arrival of the one before, at which its start bit may begin (R179; the clock: log 2). -/
def State.ByteEndsAt (s : State) (n : Nat) : Prop :=
  (s.link.lastByteAt = none ∧ n = s.now) ∨ ∃ moment, s.link.lastByteAt = some moment ∧ n = max s.now (moment + 19)

/-- Every kind of event is enabled, and the transmit queue has room for so many more telegrams (R186, R192). -/
def State.RoomFor (s : State) (n : Nat) : Prop :=
  s.report.Sound ∧ s.report.fill + n ≤ 32 ∧ s.report.enables = 0xFF#8

/-- The telegrams that a command has added carry these payloads, in this order, behind those already held. -/
def State.Sends (s t : State) (payloads : List (List Byte)) : Prop :=
  t.report.telegrams.map Telegram.payload = s.report.telegrams.map Telegram.payload ++ payloads

/-! ## The layouts of 12.6 -/

/-- The weight of a flag in its byte or word. -/
def flagWeight (b : Bool) (weight : Nat) : Nat := if b then weight else 0

/-- The codes of 12.6.2, 12.6.3, 12.6.8 and R130, in the order of their tables. -/
def CodesStand : Prop :=
  [ChState.unconfigured, .disabled, .calibrating, .charging, .running, .parked, .stopping .rampHost, .faulted].map
      ChState.byte = [0, 1, 2, 3, 4, 5, 6, 7] ∧
    ChState.byte (.stopping .rampFault) = 0x26 ∧ ChState.byte (.stopping .brake) = 0x36 ∧
    [none, some .calibrate, some .charge, some .hostStop, some .faultStop, some .brake].map opCode = [0, 1, 2, 3, 4, 5] ∧
    [none, some .completed, some .suspended, some .aborted].map outcomeCode = [0, 1, 2, 3] ∧
    [BrakeEnd.none, .speed, .time].map BrakeEnd.code = [0, 1, 2] ∧
    [CalCondition.empty, .running, .suspended].map CalCondition.code = [0, 1, 2] ∧
    [RideState.normal, .rideThrough, .expired].map RideState.code = [0, 1, 2] ∧
    [ResetCause.powerOn, .resetLine, .resetRequest].map ResetCause.code = [0, 1, 2] ∧
    [NoticeEdge.none, .assert, .release, .both].map NoticeEdge.code = [0, 1, 2, 3] ∧
    (∀ c channels, [InputFunction.general, .limitPos c, .limitNeg c, .sto channels].map InputFunction.code =
      [0, 1, 2, 3]) ∧
    [ChannelKind.axis, .spindle].map ChannelKind.code = [0, 1] ∧
    [Source.overcurrent, .driver, .sto, .dcOver, .encoder, .late, .dcUnder, .skew, .powerLoss, .i2t, .linkLoss,
      .starved].map Source.code = [1, 2, 3, 4, 5, 6, 7, 8, 9, 10, 11, 12] ∧
    (∀ x r m, Entry.code (.own x) = x.code ∧ Entry.causeCode (.own x) = 0xFF ∧ Entry.code (.partner x r m) = 13 ∧
      Entry.causeCode (.partner x r m) = x.code)

/-- The 27 bytes of a telemetry telegram (12.6.6). -/
def State.telemetryLayout (s : State) (c : ChannelId) : List Byte :=
  let x := s.ch c
  [BitVec.ofNat 8 c.val] ++ le16 x.tb.period.toNat ++ [x.state.byte] ++ le16s x.sample.ia ++ le16s x.sample.ib ++
    le16s x.ref.appliedId ++ le16s x.ref.appliedIq ++ le16s x.loopState.vd ++ le16s x.loopState.vq ++ le16 x.pos.udc ++
    le16 (x.ref.accumulator / 65536) ++ [BitVec.ofNat 8 x.queue.records.length] ++
    le16 (flagWeight x.ref.derate 1 + flagWeight x.loopState.clampD 2 + flagWeight x.loopState.clampQ 4 +
      flagWeight x.queue.starved 8 + flagWeight (decide (0 < x.eng.consecutiveLate)) 16 +
      flagWeight (s.isCoupled c) 32 + flagWeight x.op.inProgress.isSome 64 + flagWeight x.op.done 128 +
      flagWeight s.report.eventsLost 256) ++ le32 x.pos.latched.toNat

/-- The codes of a source and its cause, 0xFF for none (12.6.8). -/
def codePair : Option Entry → List Byte
  | none => [0xFF, 0xFF]
  | some e => [BitVec.ofNat 8 e.code, BitVec.ofNat 8 e.causeCode]

/-- QUERY_FAULTS after the status byte (12.6.8); the condition of an absent active source is a free value (log 42). -/
def State.faultLayout (s : State) (c : ChannelId) : List Byte :=
  let x := s.ch c
  let f := x.faults
  codePair (x.record.active.or x.record.pending.head?) ++ codePair x.record.active ++
    [match x.record.active with
      | none => Config.freeByte s.free &&& 1
      | some e => if s.conditionHolds c e then 1 else 0] ++
    le16 x.record.seen.toNat ++
    (match x.record.first with
      | none => [0#8, 0xFF#8, 0xFF#8] ++ List.replicate 14 0#8
      | some r =>
        [1] ++ codePair (some r.entry) ++ le16 r.period.toNat ++ le16s r.ia ++ le16s r.ib ++ le16 r.udc ++
          le32s r.omega ++ le16s r.appliedIq) ++
    [BitVec.ofNat 8 f.mask,
      BitVec.ofNat 8 (flagWeight (f.dcOverEnd == .auto) 1 + flagWeight (f.dcUnderEnd == .auto) 2 +
        flagWeight (f.i2tEnd == .auto) 4 + flagWeight (f.starvedEnd == .auto) 8),
      if f.encoderBrakes then 1 else 0, BitVec.ofNat 8 x.record.pending.length] ++
    x.record.pending.flatMap (fun e => codePair (some e) ++ [if s.conditionHolds c e then 1 else 0])

/-- Whether a bus profile is held, and its fields: 0 with support channel 0xFF for none (12.6.8). -/
def profileLayout : Option BusProfile → List Byte
  | none => List.replicate 13 0 ++ [0xFF] ++ List.replicate 8 0
  | some p =>
    [1] ++ le16 p.udcNom ++ [BitVec.ofNat 8 p.uvIndex, BitVec.ofNat 8 p.tUv] ++ le16 p.uOv ++ le16 p.uOn ++
      le16 p.uOff ++ le16 p.tRide ++ [BitVec.ofNat 8 ((p.support.map Fin.val).getD 0xFF)] ++ le16 p.uSupport ++
      le16 p.kbus ++ le16 p.isupMax ++ le16 (p.udcNom * (40 + 3 * p.uvIndex) / 100)

/-- QUERY_BUS after the status byte (12.6.8). -/
def State.busLayout (s : State) : List Byte :=
  let b := s.bus
  le16 b.latest ++ profileLayout b.profile ++ [if b.chopperOn then 1 else 0] ++ le16 b.turnOns ++
    [if b.ovOpen then 1 else 0] ++ le16 b.ovCount ++ [if b.uvSet then 1 else 0, BitVec.ofNat 8 b.uvDebounce] ++
    le16 b.uvCount ++ [if b.mainsAsserted then 1 else 0, b.ride.code] ++
    le32 (if b.ride = .normal then 0 else (s.now - b.rideEnteredAt) / 80000) ++
    le16 ((b.rideTimer.map (fun moment => (moment - s.now) / 80000)).getD 0) ++ le16 b.ridesBegun ++
    le16 b.ridesExpired ++ le16s b.supportCurrent

/-- One input of QUERY_INPUTS; the assignment of GENERAL is a free value (12.6.8; log 9). -/
def State.oneInputLayout (s : State) (i : InputId) : List Byte :=
  let x := s.input i
  [if x.activeLow then 1 else 0, x.function.code] ++
    (match x.function with
      | .general => [Config.freeByte (s.free + 2 * i.val), Config.freeByte (s.free + 2 * i.val + 1)]
      | .limitPos c => le16 c.val
      | .limitNeg c => le16 c.val
      | .sto channels => le16 channels.toNat) ++
    [BitVec.ofNat 8 x.filterLength, x.notice.code, if x.high then 1 else 0, if x.high = x.activeLow then 0 else 1,
      BitVec.ofNat 8 x.filterCount] ++ le16 x.changes

/-- QUERY_INPUTS after the status byte: the eight inputs, then the STO conditions of the ten channels (12.6.8). -/
def State.inputLayout (s : State) : List Byte :=
  [0, 1, 2, 3, 4, 5, 6, 7].flatMap s.oneInputLayout ++
    le16 (([0, 1, 2, 3, 4, 5, 6, 7, 8, 9].map (fun c : ChannelId =>
      flagWeight ((s.ch c).state.configured && stoHolds s.inputs c) (2 ^ c.val))).sum)

/-- QUERY_LINK after the status byte (12.6.8). -/
def State.linkLayout (s : State) : List Byte :=
  let n := s.link.counts
  [n.good, n.crc, n.length, n.gap, n.framing, n.malformed, n.badChannel, n.busy, n.lostBusy, n.telemetryDropped,
      n.watchdogExpiries].flatMap le16 ++
    [match s.link.watchdog with
      | .off => 0
      | .running _ => 1
      | .expired => 2,
    BitVec.ofNat 8 s.link.tLink,
    match s.link.watchdog with
      | .running moment => BitVec.ofNat 8 ((moment - s.now) / 80000)
      | _ => 0,
    BitVec.ofNat 8 s.commands.length, BitVec.ofNat 8 s.report.fill, if s.report.eventsLost then 1 else 0]

/-- The condition of a channel's engine slot (R41, 12.6.8). -/
def State.slotByte (s : State) (c : ChannelId) : Byte :=
  if s.engine.any (fun k => k.request.channel == c) then 3
  else
    match (s.ch c).eng.slot with
    | .empty => 0
    | .waiting _ => 1
    | .expired _ => 2

/-- QUERY_CHANNEL after the status byte, by the table of 12.6.8. -/
def State.channelLayout (s : State) (c : ChannelId) : List Byte :=
  let x := s.ch c
  let k := s.pair (pairOf c)
  [BitVec.ofNat 8 c.val, x.kind.code, x.state.byte,
      BitVec.ofNat 8 (flagWeight x.op.inProgress.isSome 1 + flagWeight x.op.done 2), opCode x.op.inProgress,
      opCode (x.op.last.map Prod.fst), outcomeCode (x.op.last.map Prod.snd), x.stop.brakeEnd.code,
      x.cal.condition.code] ++
    [x.cal.count, x.tb.period.toNat, x.tb.compare.a, x.tb.compare.b, x.tb.compare.c, x.loopState.lastStaged.a,
      x.loopState.lastStaged.b, x.loopState.lastStaged.c].flatMap le16 ++
    [if x.sample.driverAsserted then 1 else 0] ++ le32 x.pos.latched.toNat ++ le32s x.pos.omega ++ le16 x.pos.theta ++
    le16 x.pos.illegal ++ le32s x.loopState.intD ++ le32s x.loopState.intQ ++ le16s x.loopState.vd ++
    le16s x.loopState.vq ++
    [BitVec.ofNat 8 (flagWeight x.loopState.clampD 1 + flagWeight x.loopState.clampQ 2), s.slotByte c,
      BitVec.ofNat 8 x.eng.consecutiveLate] ++
    [x.eng.latePeriods, x.eng.replaced, x.eng.discarded].flatMap le16 ++ [BitVec.ofNat 8 x.queue.records.length] ++
    le16 ((x.queue.records.head?.map (fun r => r.applyAt.toNat)).getD 0) ++
    le16 ((x.queue.records.getLast?.map (fun r => r.applyAt.toNat)).getD 0) ++ le16s x.queue.baseId ++
    le16s x.queue.baseIq ++ le16 x.queue.starvation ++ [if x.queue.starved then 1 else 0] ++
    [x.queue.taken, x.queue.late, x.queue.revised, x.queue.refusedFull, x.queue.refusedCoupled,
      x.queue.dropped].flatMap le16 ++
    [x.ref.baseId, x.ref.baseIq, x.ref.appliedId, x.ref.appliedIq].flatMap le16s ++
    [BitVec.ofNat 8 (flagWeight x.ref.flags.override 1 + flagWeight x.ref.flags.corrected 2 +
      flagWeight x.ref.flags.posBlocked 4 + flagWeight x.ref.flags.negBlocked 8 + flagWeight x.ref.flags.capped 16 +
      flagWeight x.ref.flags.circleLimited 32)] ++
    le16 (x.ref.cap.getD 0xFFFF) ++ [BitVec.ofNat 8 (bitsToNat x.ref.containing)] ++ le32 x.ref.accumulator ++
    [BitVec.ofNat 8 (flagWeight x.ref.derate 1 + flagWeight x.ref.tripped 2), if k.coupled then 1 else 0,
      if c = masterOf (pairOf c) then 0 else 1] ++
    le16 k.kskew ++ le16 k.corrMax ++ le32 k.skewLimit ++ le32 k.skewOffset.toNat ++ le32s k.delta ++ le16s k.corr ++
    [if k.skewHolds then 1 else 0, BitVec.ofNat 8 x.divisor]

/-- Whether the values of a profile block wait, and its body as READ_PROFILE returns it (R191, 12.6.5): the values last
taken, but for the mask threshold of FAULTS, which is the one in force. -/
def Channel.blockLayout (x : Channel) (code : Nat) : Bool × List Byte :=
  let w := x.waiting
  match code with
  | 1 =>
    let v := w.timebase.getD x.timebase
    (w.timebase.isSome, [BitVec.ofNat 8 v.prescale] ++ le16 v.n ++
      [if v.mode = .half then 0 else 1, BitVec.ofNat 8 v.dt, BitVec.ofNat 8 v.cmin, BitVec.ofNat 8 v.tdc] ++ le16 v.db)
  | 2 => (false, [x.sensing.offA, x.sensing.offB, x.sensing.itrip].flatMap le16)
  | 3 =>
    let v := w.loop.getD x.loop
    (w.loop.isSome, [v.kpD, v.kiD, v.kpQ, v.kiQ, v.mlim].flatMap le16)
  | 4 =>
    let v := w.encoder.getD x.encoder
    (w.encoder.isSome, le32 v.cpr ++ [BitVec.ofNat 8 v.pp] ++ le16 v.thetaOff ++ le32 v.pos0.toNat ++
      [if v.inverted then 1 else 0])
  | 5 =>
    let v := w.limits.getD x.limits
    (w.limits.isSome, [v.ilim, v.idLim, v.icont, v.rampSlope].flatMap le16 ++
      [BitVec.ofNat 8 v.holdLimit, BitVec.ofNat 8 v.lateLimit, BitVec.ofNat 8 v.brakeSpeed] ++ le16 v.brakeTime)
  | 6 =>
    let v := w.thermal.getD x.thermal
    (w.thermal.isSome, [v.awarn, v.aclear, v.atrip].flatMap le32)
  | 7 =>
    let ws := w.windows.getD x.windows
    (w.windows.isSome, [BitVec.ofNat 8 ws.length] ++ ws.flatMap (fun v =>
      [BitVec.ofNat 8 (flagWeight v.enabled 1 + flagWeight v.blockPos 2 + flagWeight v.blockNeg 4 +
        flagWeight v.capPresent 8)] ++ le32 v.base.toNat ++ le32 v.limit.toNat ++ le16 v.cap))
  | 8 =>
    let v := w.faults.getD x.faults
    (w.faults.isSome, [BitVec.ofNat 8 x.faults.mask,
      BitVec.ofNat 8 (flagWeight (v.dcOverEnd == .auto) 1 + flagWeight (v.dcUnderEnd == .auto) 2 +
        flagWeight (v.i2tEnd == .auto) 4 + flagWeight (v.starvedEnd == .auto) 8),
      if v.encoderBrakes then 1 else 0])
  | _ =>
    let v := w.idle.getD x.idle
    (w.idle.isSome, [if v.parkAllowed then 1 else 0, BitVec.ofNat 8 v.parkExponent] ++ le16 v.tBoot ++
      [BitVec.ofNat 8 v.holdoff, BitVec.ofNat 8 v.tStale])

/-! ## The layouts of request payloads (12.6.3, 12.6.5) -/

/-- The byte at an offset. -/
def byteAt (bytes : List Byte) (k : Nat) : Nat := (bytes.getD k 0).toNat

/-- The two bytes at an offset, the low byte first (12.6). -/
def wordAt (bytes : List Byte) (k : Nat) : Nat := byteAt bytes k + 256 * byteAt bytes (k + 1)

/-- The four bytes at an offset, the low byte first (12.6). -/
def longAt (bytes : List Byte) (k : Nat) : Nat := wordAt bytes k + 65536 * wordAt bytes (k + 2)

/-- A TIMEBASE body, its fields taken as R8 has them. -/
def timebaseLayout (body : List Byte) : TimebaseValues :=
  let n := max 500 (min 8000 (wordAt body 1))
  { prescale := [1, 1, 2, 4, 4, 8, 8, 8].getD (byteAt body 0) 8
    n := n
    mode := if byteAt body 3 = 0 then .half else .full
    dt := byteAt body 4
    cmin := min (byteAt body 5) (n / 2)
    tdc := byteAt body 6
    db := min 4095 (wordAt body 7) }

/-- A SENSING body (R10, R11, R190). -/
def sensingLayout (body : List Byte) : SensingValues :=
  { offA := min 4095 (wordAt body 0), offB := min 4095 (wordAt body 2), itrip := max 1 (min 32767 (wordAt body 4)) }

/-- A LOOP body (R40). -/
def loopLayout (body : List Byte) : LoopValues :=
  { kpD := min 32767 (wordAt body 0)
    kiD := min 32767 (wordAt body 2)
    kpQ := min 32767 (wordAt body 4)
    kiQ := min 32767 (wordAt body 6)
    mlim := min 37837 (wordAt body 8) }

/-- An ENCODER body (R13, R16, R190). -/
def encoderLayout (body : List Byte) : EncoderValues :=
  { cpr := max 256 (min 16777216 (longAt body 0))
    pp := max 1 (min 64 (byteAt body 4))
    thetaOff := wordAt body 5
    pos0 := BitVec.ofNat 32 (longAt body 7)
    inverted := decide (byteAt body 11 = 1) }

/-- A LIMITS body (R54). -/
def limitsLayout (body : List Byte) : LimitsValues :=
  { ilim := min 32767 (wordAt body 0)
    idLim := min 32767 (wordAt body 2)
    icont := min 32767 (wordAt body 4)
    rampSlope := max 1 (min 32767 (wordAt body 6))
    holdLimit := max 1 (byteAt body 8)
    lateLimit := max 1 (min 15 (byteAt body 9))
    brakeSpeed := byteAt body 10
    brakeTime := max 1 (min 2000 (wordAt body 11)) }

/-- A THERMAL body (R109). -/
def thermalLayout (body : List Byte) : ThermalValues :=
  { awarn := max 1 (longAt body 0), aclear := max 1 (longAt body 4), atrip := max 1 (longAt body 8) }

/-- The window record at an offset (R101, R102); its cap field as it stands, also where the cap is absent (log 24). -/
def windowLayout (body : List Byte) (k : Nat) : Window :=
  { enabled := (body.getD k 0).getLsbD 0
    blockPos := (body.getD k 0).getLsbD 1
    blockNeg := (body.getD k 0).getLsbD 2
    capPresent := (body.getD k 0).getLsbD 3
    base := BitVec.ofNat 32 (longAt body (k + 1))
    limit := BitVec.ofNat 32 (longAt body (k + 5))
    cap := min 32767 (wordAt body (k + 9)) }

/-- A WINDOWS body: as many records as its count says (R102). -/
def windowsLayout (body : List Byte) : List Window :=
  (List.range (byteAt body 0)).map (fun j => windowLayout body (1 + 11 * j))

/-- A FAULTS body (R132). -/
def faultsLayout (body : List Byte) : FaultsValues :=
  let ends : Nat → EndMode := fun bit => if (body.getD 1 0).getLsbD bit then .auto else .held
  { mask := max 2 (min 5 (byteAt body 0))
    dcOverEnd := ends 0
    dcUnderEnd := ends 1
    i2tEnd := ends 2
    starvedEnd := ends 3
    encoderBrakes := decide (byteAt body 2 = 1) }

/-- An IDLE body (R55). -/
def idleLayout (body : List Byte) : IdleValues :=
  { parkAllowed := decide (byteAt body 0 ≠ 0)
    parkExponent := min 15 (byteAt body 1)
    tBoot := max 50 (min 5000 (wordAt body 2))
    holdoff := max 1 (byteAt body 4)
    tStale := max 1 (byteAt body 5) }

/-- The body length that a block type asks for, by the table of 12.6.5; none for a code that is no type, and for a
WINDOWS count above 4 (R102). -/
def bodyLength (code : Byte) (body : List Byte) : Option Nat :=
  match code.toNat with
  | 1 => some 9
  | 2 => some 6
  | 3 => some 10
  | 4 => some 12
  | 5 => some 13
  | 6 => some 12
  | 7 => if byteAt body 0 ≤ 4 then some (1 + 11 * byteAt body 0) else none
  | 8 => some 3
  | 9 => some 6
  | _ => none

/-- The payload of a LOAD_PROFILE: the channel, the kind byte, and whole blocks, each its type, its length and its body
(12.6.3, 12.6.5). -/
abbrev IsProfile (payload : List Byte) (c : ChannelId) (kind : Byte) (tiles : List (Byte × List Byte)) : Prop :=
  (∀ t ∈ tiles, t.2.length < 256) ∧
    payload = BitVec.ofNat 8 c.val :: kind :: tiles.flatMap (fun t => t.1 :: BitVec.ofNat 8 t.2.length :: t.2)

/-- No block is wrong: every type is one of 12.6.5, none is present twice, every length is that of its type (R190). -/
abbrev TilesFit (tiles : List (Byte × List Byte)) : Prop :=
  (tiles.map Prod.fst).Nodup ∧ ∀ t ∈ tiles, bodyLength t.1 t.2 = some t.2.length

/-- The values that the blocks of a telegram carry, each where its type is present. -/
def blocksLayout (tiles : List (Byte × List Byte)) : Blocks :=
  { timebase := (tiles.lookup 1).map timebaseLayout
    sensing := (tiles.lookup 2).map sensingLayout
    loop := (tiles.lookup 3).map loopLayout
    encoder := (tiles.lookup 4).map encoderLayout
    limits := (tiles.lookup 5).map limitsLayout
    thermal := (tiles.lookup 6).map thermalLayout
    windows := (tiles.lookup 7).map windowsLayout
    faults := (tiles.lookup 8).map faultsLayout
    idle := (tiles.lookup 9).map idleLayout }

/-- The four blocks of a first profile are present (R57). -/
abbrev Blocks.HasFour (b : Blocks) : Prop :=
  b.timebase ≠ .none ∧ b.loop ≠ .none ∧ b.encoder ≠ .none ∧ b.limits ≠ .none

/-- No window has its limit below its base (R102), and Aclear < Awarn ≤ Atrip (R109). -/
abbrev Blocks.InOrder (b : Blocks) : Prop :=
  (∀ ws, b.windows = some ws → ∀ w ∈ ws, w.base.toInt ≤ w.limit.toInt) ∧
    ∀ v, b.thermal = some v → v.aclear < v.awarn ∧ v.awarn ≤ v.atrip

/-- The kind that a kind byte names (12.6.3). -/
abbrev KindIs (byte : Byte) (kind : ChannelKind) : Prop :=
  (byte = 0 ∧ kind = .axis) ∨ (byte = 1 ∧ kind = .spindle)

/-- The profile of a CONFIGURE_BUS payload, its fields taken as R155 has them. -/
def busProfileLayout (payload : List Byte) : BusProfile :=
  { udcNom := max 1 (min 32760 (wordAt payload 0))
    uvIndex := min 15 (byteAt payload 2)
    tUv := max 1 (byteAt payload 3)
    uOv := min 32760 (wordAt payload 4)
    uOn := min 32760 (wordAt payload 6)
    uOff := min 32760 (wordAt payload 8)
    tRide := max 1 (min 500 (wordAt payload 10))
    support := if h : byteAt payload 12 < 10 then some ⟨byteAt payload 12, h⟩ else none
    uSupport := min 32760 (wordAt payload 13)
    kbus := min 32767 (wordAt payload 15)
    isupMax := min 32767 (wordAt payload 17) }

/-- The records of a CONFIGURE_INPUTS payload, of seven bytes each (12.6.3). -/
def inputsLayout (payload : List Byte) : List RawInput :=
  (List.range (payload.length / 7)).map (fun j =>
    { input := byteAt payload (7 * j)
      polarity := byteAt payload (7 * j + 1)
      function := byteAt payload (7 * j + 2)
      assignment := wordAt payload (7 * j + 3)
      filterLength := byteAt payload (7 * j + 5)
      notice := byteAt payload (7 * j + 6) })

/-- An input under a record whose values exist (R177): its level and its change count are kept. -/
def RawInput.configures (r : RawInput) (x : Input) : Input :=
  { x with
    filterCount := 0
    activeLow := decide (r.polarity = 1)
    function :=
      if r.function = 1 then .limitPos (Fin.ofNat 10 r.assignment)
      else if r.function = 2 then .limitNeg (Fin.ofNat 10 r.assignment)
      else if r.function = 3 then .sto (BitVec.ofNat 10 r.assignment)
      else .general
    filterLength := max 1 (min 16 r.filterLength)
    notice :=
      if r.notice = 1 then .assert else if r.notice = 2 then .release else if r.notice = 3 then .both else .none }

/-- The request formed at a conversion completion (R19, R42): `x` holds the period's latches, references and values,
`y` the currents of the completion. -/
def requestFormed (c : ChannelId) (x y : Channel) : EngineRequest :=
  { channel := c, period := x.tb.period
    deadline := x.tb.periodStart +
      (if x.timebase.mode = .half then x.timebase.n * x.timebase.prescale
      else 2 * x.timebase.n * x.timebase.prescale)
    ia := y.sample.ia, ib := y.sample.ib, ic := y.sample.ic, theta := x.pos.theta, position := x.pos.latched
    udc := x.pos.udc, idRef := x.ref.appliedId, iqRef := x.ref.appliedIq, vff := x.ref.vff, loop := x.loop
    n := x.timebase.n, cmin := x.timebase.cmin, tdc := x.timebase.tdc, db := x.timebase.db }

/-! ## Sound channels -/

/-- The outputs of one phase: not both on (R7), and none on without its demand (R6). -/
def Channel.phaseSound (x : Channel) (cx : Nat) (p : Phase) : Bool :=
  !(p.high.on && p.low.on) && (!p.high.on || x.demandHigh cx) && (!p.low.on || x.demandLow cx)

/-- The gates of a channel: the gate mode of its state (R56), and three sound phases. -/
def Channel.gatesSound (x : Channel) : Bool :=
  (x.tb.gateMode == x.state.gateMode) && x.phaseSound x.tb.compare.a x.tb.phaseA &&
    x.phaseSound x.tb.compare.b x.tb.phaseB && x.phaseSound x.tb.compare.c x.tb.phaseC

/-- The gates of every channel are sound. -/
def State.GatesSound (s : State) : Prop := ∀ c, (s.ch c).gatesSound = true

/-- All six outputs are off. -/
def Channel.allOff (x : Channel) : Bool :=
  !x.tb.phaseA.high.on && !x.tb.phaseA.low.on && !x.tb.phaseB.high.on && !x.tb.phaseB.low.on &&
    !x.tb.phaseC.high.on && !x.tb.phaseC.low.on

/-- The outputs of one phase at a tick (R6, R7), from those before, the two demands at that tick and DT: a switch is
on where its demand is present and it was on already or its complement has been off for DT ticks, and each counts the
ticks it has been off. -/
def PhaseFollows (demandHigh demandLow : Bool) (dt : Nat) (p q : Phase) : Prop :=
  (q.high.on = true ↔ demandHigh = true ∧
    (p.high.on = true ∨ if p.low.on then dt = 0 else dt ≤ min 255 (p.low.offTicks + 1))) ∧
  (q.low.on = true ↔ demandLow = true ∧
    (p.low.on = true ∨ if p.high.on then dt = 0 else dt ≤ min 255 (p.high.offTicks + 1))) ∧
  (q.high.on = false → q.high.offTicks = if p.high.on then 0 else min 255 (p.high.offTicks + 1)) ∧
  (q.low.on = false → q.low.offTicks = if p.low.on then 0 else min 255 (p.low.offTicks + 1))

/-- A running channel on which nothing keeps a source of this priority from entering and becoming active at once. -/
def State.RunsClear (s : State) (c : ChannelId) (priority : Nat) : Prop :=
  s.resetHeld = false ∧ s.isCoupled c = false ∧ (s.ch c).state = .running ∧ (s.ch c).record.entries = [] ∧
    (s.ch c).tb.gateMode = .modulate ∧ priority < (s.ch c).faults.mask

/-- A running channel after a source with the reaction GATES_OFF has become active (R65, R68, R69, R135, R142, R143):
FAULTED with its gates off, the engine left, the queue emptied, and the source in its records. -/
def State.StoppedBy (t : State) (c : ChannelId) (source : Source) : Prop :=
  (t.ch c).state = .faulted ∧ (t.ch c).tb.gateMode = .off ∧ (t.ch c).allOff = true ∧ (t.ch c).eng.slot = .empty ∧
    (t.ch c).eng.mark = none ∧ (t.ch c).queue.records = [] ∧ (t.ch c).record.active = some (.own source) ∧
    (t.ch c).record.pending = [] ∧ (t.ch c).record.seen.getLsbD (source.code - 1) = true ∧
    (t.ch c).timers.charge = none ∧ (t.ch c).timers.park = none ∧ (t.ch c).timers.brake = none ∧
    (t.ch c).record.first = some
      { entry := .own source, period := (t.ch c).tb.period, ia := (t.ch c).sample.ia, ib := (t.ch c).sample.ib,
        udc := (t.ch c).pos.udc, omega := (t.ch c).pos.omega, appliedIq := (t.ch c).ref.appliedIq }

/-- 15!·d^15 times the value at y/d of the Taylor polynomial of the sine of degree 15. Up to a quarter turn it differs
from the sine by less than 10^-11. -/
def sineSeries (y d : Int) : Int :=
  1307674368000 * y * d ^ 14 - 217945728000 * y ^ 3 * d ^ 12 + 10897286400 * y ^ 5 * d ^ 10 -
    259459200 * y ^ 7 * d ^ 8 + 3603600 * y ^ 9 * d ^ 6 - 32760 * y ^ 11 * d ^ 4 + 210 * y ^ 13 * d ^ 2 - y ^ 15

/-- An integer is entry k of the sine table (R21), k in 0..1023: the nearest to 32767·sin(2πk/1024), by the series at the
same distance from the nearest multiple of a half turn, with π to twenty places, and negative in the second half turn.
No entry lies within 10^-3 of a half, so the series and these places of π decide every one. -/
def IsSine (k : Nat) (v : Int) : Prop :=
  let d : Int := 512 * 100000000000000000000
  let unit : Int := 1307674368000 * d ^ 15
  let exact : Int := 32767 * sineSeries ((min (k % 512) (512 - k % 512) : Nat) * 314159265358979323846) d
  let q : Int := if k < 512 then v else -v
  2 * exact - unit < 2 * q * unit ∧ 2 * q * unit < 2 * exact + unit

/-- The half-up division of x by 2^k (spec 00, 5.6), as the two bounds of its quotient. -/
def HalfUp (k : Nat) (x q : Int) : Prop := 2 ^ k * q ≤ x + 2 ^ (k - 1) ∧ x + 2 ^ (k - 1) < 2 ^ k * (q + 1)

/-- The half-up division of x by 2^k, clamped to ±32767. -/
def HalfUpClamped (k : Nat) (x q : Int) : Prop := ∃ quotient, HalfUp k x quotient ∧ q = max (-32767) (min 32767 quotient)

/-- Stages 2 to 7 of a computation (R23 to R28), from the request, the two integrators and the sine and cosine of stage
1: the errors and the unlimited voltages of the two axes. -/
def EngineRequest.FormsVoltages (r : EngineRequest) (intD intQ s c ed eq ud uq : Int) : Prop :=
  ∃ beta id iq pd pq od oq : Int,
    HalfUpClamped 15 ((r.ia + 2 * r.ib) * 18919) beta ∧
    HalfUpClamped 15 (r.ia * c + beta * s) id ∧ HalfUpClamped 15 (-r.ia * s + beta * c) iq ∧
    ed = max (-32767) (min 32767 (r.idRef - id)) ∧ eq = max (-32767) (min 32767 (r.iqRef - iq)) ∧
    HalfUpClamped 8 (r.loop.kpD * ed) pd ∧ HalfUpClamped 8 (r.loop.kpQ * eq) pq ∧
    HalfUp 16 (max (-2147418112) (min 2147418112 (intD + r.loop.kiD * ed))) od ∧
    HalfUp 16 (max (-2147418112) (min 2147418112 (intQ + r.loop.kiQ * eq))) oq ∧
    ud = pd + od ∧ uq = pq + oq + r.vff

/-- Stages 10 and 11 of a computation (R32, R33, R34), from the sine and cosine of stage 1 and the limited voltages: the
three centred phase voltages. -/
def CentredVoltages (s c vd vq va vb vc : Int) : Prop :=
  ∃ alpha beta b m : Int,
    HalfUp 15 (vd * c - vq * s) alpha ∧ HalfUp 15 (vd * s + vq * c) beta ∧
    HalfUp 15 (-alpha * 16384 + beta * 28378) b ∧
    2 * m ≤ max alpha (max b (-alpha - b)) + min alpha (min b (-alpha - b)) ∧
    max alpha (max b (-alpha - b)) + min alpha (min b (-alpha - b)) < 2 * (m + 1) ∧
    va = alpha - m ∧ vb = b - m ∧ vc = -alpha - b - m

/-- The anti-windup of one axis (R31), with its bound, its unlimited voltage, its error, the integrator at the grant,
the increment of its candidate (R27), and the new integrator. -/
def IntegratorRule (bound : Nat) (u e old increment new : Int) : Prop :=
  (bound < u.natAbs ∧ ((0 < e ∧ (bound : Int) < u) ∨ (e < 0 ∧ u < -(bound : Int))) → new = old) ∧
  (¬ (bound < u.natAbs ∧ ((0 < e ∧ (bound : Int) < u) ∨ (e < 0 ∧ u < -(bound : Int)))) →
    new = max (-2147418112) (min 2147418112 (old + increment)))

/-- A queue holds at most 16 records, each for a period to come, in strictly increasing distance (R80). -/
def SetpointQueue.Ordered (q : SetpointQueue) (period : BitVec 16) : Prop :=
  q.records.length ≤ 16 ∧ (∀ r ∈ q.records, isLate r.applyAt period = false) ∧
    q.records.Pairwise (fun a b => distance a.applyAt period < distance b.applyAt period)

/-- The setpoint queues: ordered, and empty in a state that takes no record (R90) and for a follower (R92); coupled
channels are configured (R129). -/
def State.QueuesSound (s : State) : Prop :=
  (∀ c, (s.ch c).queue.Ordered (s.ch c).tb.period ∧
    ((s.ch c).state.takes = false → (s.ch c).queue.records = []) ∧
    (s.isFollower c = true → (s.ch c).queue.records = []))

/-- A record: its entries are distinct, the pending list is ordered by priority number and none of it is more urgent
than the active source, and with no active source nothing is pending (R131, R135, R138). -/
def FaultRecord.Sound (r : FaultRecord) : Prop :=
  r.entries.Pairwise (fun a b => a.same b = false) ∧ r.pending.Pairwise (fun a b => a.priority ≤ b.priority) ∧
    (∀ a, r.active = some a → ∀ e ∈ r.pending, a.priority ≤ e.priority) ∧ (r.active = none → r.pending = [])

/-- Channel state and record go together (R147): FAULTED holds an entry, and only FAULTED and STOPPING with cause
FAULT do. -/
def Channel.recordFits (x : Channel) : Bool :=
  match x.state with
  | .faulted => !x.record.isEmpty
  | .stopping .rampFault => true
  | .stopping .brake => true
  | _ => x.record.isEmpty

/-- Every fault record is sound and fits its channel's state, and a calibration is in progress only in CALIBRATING
(R71). -/
def State.RecordsSound (s : State) : Prop :=
  ∀ c, (s.ch c).record.Sound ∧ (s.ch c).recordFits = true ∧
    ((s.ch c).cal.condition = .running → (s.ch c).state = .calibrating)

/-- The two channels of a coupled pair share the mask threshold (R127), and charge, run and park together (R124,
R126): in each of these three states stand both or neither. -/
def State.PairsSound (s : State) : Prop :=
  ∀ p, (s.pair p).coupled = true →
    (s.ch (masterOf p)).faults.mask = (s.ch (followerOf p)).faults.mask ∧
    ∀ x, x = ChState.charging ∨ x = ChState.running ∨ x = ChState.parked →
      ((s.ch (masterOf p)).state = x ↔ (s.ch (followerOf p)).state = x)

/-! ## Sound shared blocks -/

/-- The queues of the link: at most 4 requests (R184), and a sound transmit queue. -/
def State.LinkSound (s : State) : Prop := s.commands.length ≤ 4 ∧ s.report.Sound

/-- While the brake chopper is on, the latest sample is above U_off (R158), of a profile whose levels are in order
(R156); with no profile held it is off (R157). -/
def Bus.Sound (b : Bus) : Prop :=
  (∀ p, b.profile = some p → p.ordered = true) ∧
    (b.chopperOn = true → ∃ p, b.profile = some p ∧ p.uOff < b.latest)

/-- While the derate flag is set, the accumulator is above Aclear (R111), of levels that are in order, waiting ones
too (R109). -/
def Channel.ThermalSound (x : Channel) : Prop :=
  x.thermal.ordered = true ∧ (∀ v, x.waiting.thermal = some v → v.ordered = true) ∧
    (x.ref.derate = true → x.thermal.aclear < x.ref.accumulator)

/-- The thermal models of all channels are sound. -/
def State.ThermalSound (s : State) : Prop := ∀ c, (s.ch c).ThermalSound

end Sys2Proof.Machine
end

