-- ==== Sys2Proof/Certificates/Slice0/Obligations.lean ====
section
/-! DEFINITION. The statements about the part, in the order of OBLIGATIONS.json: the step, resets, timebases, sampling
and the engine, the controller, the bus, the inputs, the link, the dispatcher's requests, and what every command
keeps. -/

open Sys2Proof Sys2Proof.Machine

/-! ## The step -/

/-- A step takes the command at the front of the queue and executes it with the queue's rest. -/
def Obligations.StepTakesFrontCommand : Prop :=
  ∀ c rest s, s.pending = c :: rest → step s = exec c { s with pending := rest }

/-- With no command waiting, the dispatcher executes the head of the command queue where it may (R184), and else one
cycle of the reference clock passes. That an idle step does so is the model's choice (log 3). -/
def Obligations.IdleStepServesHead : Prop :=
  ∀ s, s.pending = [] →
    (∀ r i, s.commands.head? = some r → requestOf i = some r → s.CanServe r → step s = exec i s) ∧
    ((∀ r, s.commands.head? = some r → ¬ s.CanServe r) → step s = .next { s with now := s.now + 1 })

/-- Every command completes in a next state, in every state of the part. That no command touches the commands that wait
behind it, in a held part and at a reset too, is the model's choice (log 30; log 25 for the held part): the queue of
commands is the model's own. -/
def Obligations.CommandsCompleteAndKeepQueue : Prop :=
  ∀ i s, ∃ t, exec i s = .next t ∧ t.pending = s.pending

/-! ## Resets -/

/-- POWER_ON leaves every block at the reset values of its chapter (R17, R52, R78, R94, R114, R115, R152, R170, R178,
R188) with the cause POWER_ON, and RESET_DONE on the line. An asserted reset line does the same with the cause RESET_LINE
at its assertion and holds the part there, so that no command but a reset has an effect (log 25). The reset ends, with
its RESET_DONE and the cause held, at the release; a POWER_ON under an asserted line takes effect and ends there too
(R196). What the reset tables leave out takes the values of log 23, with the off-tick counts of log 17: these are the
model's choice. So is it that an assertion of an asserted line and a release of a released line change nothing
(log 25). -/
def Obligations.PinResetsResetPart : Prop :=
  (∀ s, s.resetHeld = false → ∃ t, exec .powerOn s = .next t ∧ s.BlocksReset .powerOn t ∧ t.ReportsReset .powerOn ∧
    t.resetHeld = false ∧ t.now = s.now) ∧
  (∀ s, s.resetHeld = true → ∃ t, exec .powerOn s = .next t ∧ s.BlocksReset .powerOn t ∧ t.report = Report.reset ∧
    t.resetHeld = true ∧ t.now = s.now) ∧
  (∀ s, s.resetHeld = false → ∃ t, exec .resetLineAssert s = .next t ∧ s.BlocksReset .resetLine t ∧
    t.report = Report.reset ∧ t.resetHeld = true ∧ t.now = s.now) ∧
  (∀ s, s.resetHeld = true → exec .resetLineAssert s = .next s) ∧
  (∀ s i, s.resetHeld = true → isResetRow i = false → exec i s = .next s) ∧
  (∀ s, s.resetHeld = true → ∃ t, exec .resetLineRelease s = .next t ∧ s.BlocksReset s.resetCause t ∧
    t.ReportsReset s.resetCause ∧ t.resetHeld = false ∧ t.now = s.now) ∧
  (∀ s, s.resetHeld = false → exec .resetLineRelease s = .next s)

/-- DEVICE_RESET is answered OK, its reply enters the transmit queue, and from then on the dispatcher executes nothing
(R184, R196). An awaited DEVICE_RESET takes effect when the last byte of its reply has left, by its own row or by the
TRANSMIT_END of that reply (log 22): every block takes the reset values of its chapter with the cause RESET_REQUEST, and
RESET_DONE is sent (R196). What the reset tables leave out takes the values of log 23, and the clock moves to the end of
the reply (log 2): the model's choices. With none
awaited, or while another telegram or none is on the line, the row does nothing (log 22). -/
def Obligations.DeviceResetAwaitsAndTakesEffect : Prop :=
  (∀ s tag, s.CanServe ⟨0x39, tag, []⟩ →
    exec (.deviceReset tag []) s = .next
      { s with
        report := s.report.enter s.now { cls := .reply, kind := 0xB9, tag := tag, payload := [0], endsReset := true }
        commands := s.commandsAfter ⟨0x39, tag, []⟩
        resetAwaited := true } ∧
    ∀ t : State, t.resetAwaited = true → ∀ i r, requestOf i = some r → exec i t = .next t) ∧
  (∀ s, s.resetHeld = false →
    (∀ w, s.resetAwaited = true → s.report.sending = some w → w.telegram.endsReset = true →
      ∃ t, exec .deviceResetTakesEffect s = .next t ∧ s.BlocksReset .resetRequest t ∧ t.ReportsReset .resetRequest ∧
        t.resetHeld = false ∧ t.now = max s.now (w.startedAt + 20 * w.bytes.length)) ∧
    (s.resetAwaited = false → exec .deviceResetTakesEffect s = .next s) ∧
    ((∀ w, s.report.sending = some w → w.telegram.endsReset = false) → exec .deviceResetTakesEffect s = .next s) ∧
    (∀ w, s.report.sending = some w → w.telegram.endsReset = true → s.resetAwaited = true →
      exec .transmitEnd s = exec .deviceResetTakesEffect s))

/-- The reset values of every profile block (R8, R10, R11, R17, R40, R54, R55, R109, R132), of the compare values, gates
and fault record of each channel, and the leading values of the shared blocks (R115, R170, R178, R188, R192), as the
tables give them. The part after reset is sound in every sense of the invariants below. -/
def Obligations.ResetStateStands : Prop :=
  ((∀ c, (State.reset.ch c).kind = .axis ∧ (State.reset.ch c).state = .unconfigured ∧
    (State.reset.ch c).timebase = { prescale := 1, n := 2500, mode := .half, dt := 80, cmin := 40, tdc := 0, db := 0 } ∧
    (State.reset.ch c).sensing = { offA := 2048, offB := 2048, itrip := 32767 } ∧
    (State.reset.ch c).loop = { kpD := 0, kiD := 0, kpQ := 0, kiQ := 0, mlim := 37837 } ∧
    (State.reset.ch c).encoder = { cpr := 4096, pp := 1, thetaOff := 0, pos0 := 0, inverted := false } ∧
    (State.reset.ch c).limits =
      { ilim := 0, idLim := 0, icont := 0, rampSlope := 256, holdLimit := 8, lateLimit := 3, brakeSpeed := 0,
        brakeTime := 500 } ∧
    (State.reset.ch c).thermal = { awarn := 4000000000, aclear := 3000000000, atrip := 4294967295 } ∧
    (State.reset.ch c).windows = [] ∧
    (State.reset.ch c).faults =
      { mask := 5, dcOverEnd := .held, dcUnderEnd := .held, i2tEnd := .held, starvedEnd := .held,
        encoderBrakes := false } ∧
    (State.reset.ch c).idle = { parkAllowed := false, parkExponent := 10, tBoot := 200, holdoff := 20, tStale := 50 } ∧
    (State.reset.ch c).tb.compare = { a := 1250, b := 1250, c := 1250 } ∧ (State.reset.ch c).tb.gateMode = .off ∧
    (State.reset.ch c).allOff = true ∧ (State.reset.ch c).record.entries = [] ∧ (State.reset.ch c).divisor = 0) ∧
  (∀ p, (State.reset.pair p).coupled = false ∧ (State.reset.pair p).skewLimit = 2147483647) ∧
  (∀ i, (State.reset.input i).high = false ∧ (State.reset.input i).activeLow = false ∧
    (State.reset.input i).function = .general ∧ (State.reset.input i).filterLength = 4) ∧
  State.reset.bus.profile = none ∧ State.reset.bus.latest = 0 ∧ State.reset.bus.chopperOn = false ∧
  State.reset.bus.ride = .normal ∧ State.reset.link.receiver = .hunt ∧ State.reset.link.watchdog = .off ∧
  State.reset.commands = [] ∧ State.reset.report.telegrams = [] ∧ State.reset.report.enables = 0xFF#8) ∧
  (State.reset.GatesSound ∧ State.reset.QueuesSound ∧ State.reset.RecordsSound ∧ State.reset.PairsSound ∧
    State.reset.LinkSound ∧ State.reset.bus.Sound ∧ State.reset.ThermalSound)

/-! ## Valleys -/

/-- A valley of a configured channel opens a period: the counter stands at 0 and counts up, the period number rises,
position, speed and Udc are latched, conversion starts, and every waiting block comes into force (R1, R2, R3, R9, R15,
R40, R54, R102, R109, R132, R154). No channel outside acts, and of the rest of the part only the pair coupler, the
engine, the support current and what is sent may change. Model's choices: one valley opens the period of both channels
of a coupled pair (log 5, read from R117), the counter is set to 0 whatever it shows (log 1), and the clock moves to the
end of the period (log 2). The telemetry countdown falls, and at 0 starts again while a telegram with the 27 bytes of
12.6.6 is offered to the transmit queue, or dropped and counted where that is full (R192, R193): said of what is sent
while no event is enabled. Of the telegrams of a coupled pair the master's is offered first: a choice too (log 51). -/
def Obligations.ValleyOpensPeriod : Prop :=
  (∀ s c, s.resetHeld = false → (s.ch c).state ≠ .unconfigured →
    ∃ t, exec (.valley c) s = .next t ∧ s.OthersKept (s.group c) t ∧
      t = { s with
        now := max s.now ((s.ch (s.leader c)).tb.periodStart +
          2 * (s.ch (s.leader c)).timebase.n * (s.ch (s.leader c)).timebase.prescale)
        free := t.free
        channels := t.channels
        pairs := t.pairs
        engine := t.engine
        bus := { s.bus with supportCurrent := t.bus.supportCurrent }
        link := { s.link with counts := { s.link.counts with telemetryDropped := t.link.counts.telemetryDropped } }
        report := t.report } ∧
      (∀ p, p ≠ pairOf c → t.pair p = s.pair p) ∧
      ∀ g ∈ s.group c,
        (t.ch g).tb.counter = 0 ∧ (t.ch g).tb.up = true ∧ (t.ch g).tb.period = (s.ch g).tb.period + 1 ∧
        (t.ch g).tb.periodStart = t.now ∧ (t.ch g).sample = { (s.ch g).sample with converting := true } ∧
        (t.ch g).timebase = (s.ch g).waiting.timebase.getD (s.ch g).timebase ∧
        (t.ch g).loop = (s.ch g).waiting.loop.getD (s.ch g).loop ∧
        (t.ch g).encoder = (s.ch g).waiting.encoder.getD (s.ch g).encoder ∧
        (t.ch g).limits = (s.ch g).waiting.limits.getD (s.ch g).limits ∧
        (t.ch g).thermal = (s.ch g).waiting.thermal.getD (s.ch g).thermal ∧
        (t.ch g).windows = (s.ch g).waiting.windows.getD (s.ch g).windows ∧
        (t.ch g).idle = (s.ch g).waiting.idle.getD (s.ch g).idle ∧
        { (t.ch g).faults with mask := 0 } = { (s.ch g).waiting.faults.getD (s.ch g).faults with mask := 0 } ∧
        (s.isCoupled c = false → (t.ch g).faults = (s.ch g).waiting.faults.getD (s.ch g).faults) ∧
        (t.ch g).waiting = Waiting.none ∧ (t.ch g).sensing = (s.ch g).sensing ∧ (t.ch g).kind = (s.ch g).kind ∧
        (t.ch g).pos = { (s.ch g).pos with
          latched := (s.ch g).pos.count
          previous := if (s.ch g).pos.relatch then (s.ch g).pos.count else (s.ch g).pos.latched
          relatch := false
          omega := (t.ch g).pos.omega
          theta := (t.ch g).pos.theta
          udc := s.bus.latest } ∧
        (t.ch g).pos.omega = ((t.ch g).pos.latched - (t.ch g).pos.previous).toInt) ∧
  ∀ s c due, s.resetHeld = false → (s.ch c).state ≠ .unconfigured →
    due = (s.group c).filter (fun g => (s.ch g).countdown.any (fun k => decide (k ≤ 1))) →
    ∃ t, exec (.valley c) s = .next t ∧
      (∀ g ∈ s.group c, (t.ch g).divisor = (s.ch g).divisor ∧
        ((s.ch g).countdown = none → (t.ch g).countdown = none) ∧
        ∀ k, (s.ch g).countdown = some k →
          (t.ch g).countdown = some (if k ≤ 1 then (s.ch g).divisor else k - 1)) ∧
      (s.report.Sound → s.report.enables = 0 →
        (s.report.fill + due.length ≤ 32 → s.Sends t (due.map t.telemetryLayout) ∧
          (∀ x ∈ t.report.telegrams.drop s.report.telegrams.length, x.cls = .telemetry ∧ x.kind = 0x41) ∧
          t.link.counts = s.link.counts) ∧
        (s.report.fill = 32 → due ≠ [] → t.report = s.report ∧
          t.link.counts.telemetryDropped = min 65535 (s.link.counts.telemetryDropped + due.length)))

/-- The electrical angle of a valley (R16): d is the latched position less the zero reference, read as signed, p its
non-negative remainder by CPR, and θ the quotient of p·PP·65536 by CPR, rounded down, plus the offset, modulo
65536. The CPR in force is at least 256, and the block values are those in force at that valley. -/
def Obligations.ValleyFormsAngle : Prop :=
  ∀ s c, s.resetHeld = false → (s.ch c).state ≠ .unconfigured →
    ∃ t, exec (.valley c) s = .next t ∧ ∀ g ∈ s.group c, ∀ cpr pp : Nat, 256 ≤ cpr →
      (t.ch g).encoder.cpr = cpr → (t.ch g).encoder.pp = pp →
      ∃ d p q : Int, d = ((t.ch g).pos.latched - (t.ch g).encoder.pos0).toInt ∧
        0 ≤ p ∧ p < cpr ∧ (∃ k, d = k * cpr + p) ∧
        q * cpr ≤ p * pp * 65536 ∧ p * pp * 65536 < (q + 1) * cpr ∧
        ((t.ch g).pos.theta : Int) = (q + (t.ch g).encoder.thetaOff) % 65536

/-- A valley takes the due record of the queue that serves the channel, or holds the reference and in CHARGING, RUNNING
and PARKED counts the starvation run against the hold limit in force (R86, R88, R89, R92). It says so of a channel that
still takes records when the valley is over: a reaction of the same valley may empty the queue. Of every configured
channel it says that the due record is taken, and counted so, under the channel's state as the valley finds it (R3),
whatever the valley then makes of the channel, by a LATE of FULL mode too (that the load point of FULL mode falls after
the take, and that what a FAULTS or THERMAL block lets go leaves after it, is the model's choice: log 6, 37). At the
hold limit STARVED is raised at the end of the reference path (R3, R88): masked it is a warning, in the seen set alone
(R134); else it ramps a running channel down from the applied references of that valley, and stops one that charges or
is parked, whose emptied queue ends the run, so that an AUTO entry leaves at once. A record taken while the channel
ramps for STARVED ends the run, and the AUTO entry leaves while the ramp goes on (R89, R137, R140). Both are said of a
channel that is not coupled, where I2T is not raised at that valley. -/
def Obligations.ValleyTakesDueRecord : Prop :=
  (∀ s c x, x = s.ch (s.leader c) → s.resetHeld = false → (s.ch c).state ≠ .unconfigured →
    ∃ t, exec (.valley c) s = .next t ∧
      (∀ r, x.state.takes = true → x.queue.records.head? = some r → r.applyAt = x.tb.period + 1 →
        (t.ch (s.leader c)).queue.taken = min 65535 (x.queue.taken + 1)) ∧
      (x.state.takes = false ∨ (∀ r, x.queue.records.head? = some r → r.applyAt ≠ x.tb.period + 1) →
        (t.ch (s.leader c)).queue.taken = x.queue.taken)) ∧
  (∀ s c, s.resetHeld = false → (s.ch c).state ≠ .unconfigured → s.RecordsSound →
    (s.ch (s.leader c)).state.takes = true →
    ∃ t, exec (.valley c) s = .next t ∧
      ((t.ch (s.leader c)).state.takes = true →
        ∀ x q, x = s.ch (s.leader c) → q = x.queue →
          (∀ r rest, q.records = r :: rest → r.applyAt = x.tb.period + 1 →
            (t.ch (s.leader c)).queue = { q with
              records := rest
              baseId := r.id
              baseIq := r.iq
              periodVff := r.vff.getD 0
              taken := min 65535 (q.taken + 1)
              starvation := 0
              starved := false }) ∧
          ((∀ r, q.records.head? = some r → r.applyAt ≠ x.tb.period + 1) →
            (x.state.isReference = true → (t.ch (s.leader c)).queue = { q with
              periodVff := 0
              starvation := min 65535 (q.starvation + 1)
              starved := q.starved ||
                decide ((x.waiting.limits.getD x.limits).holdLimit ≤ min 65535 (q.starvation + 1)) }) ∧
            (x.state.isReference = false → (t.ch (s.leader c)).queue = { q with periodVff := 0 })))) ∧
  (∀ s c x, x = s.ch c → s.resetHeld = false → s.isCoupled c = false → x.timebase.mode = .half →
    x.record.entries = [] → x.waiting.thermal = none → x.waiting.faults = none → x.state.isReference = true →
    x.queue.starved = false → (∀ r, x.queue.records.head? = some r → r.applyAt ≠ x.tb.period + 1) →
    (x.waiting.limits.getD x.limits).holdLimit ≤ min 65535 (x.queue.starvation + 1) →
    ∃ t, exec (.valley c) s = .next t ∧ ∀ y, y = t.ch c → (y.ref.tripped = true → x.ref.tripped = true) →
      y.record.seen.getLsbD 11 = true ∧
      (x.faults.mask ≤ 4 → y.state = x.state ∧ y.queue.starved = true ∧ y.record = { x.record with
        seen := x.record.seen ||| 0x800 }) ∧
      (4 < x.faults.mask → x.state = .running → y.state = .stopping .rampFault ∧ y.queue.starved = true ∧
        y.record.active = some (.own .starved) ∧ y.record.pending = [] ∧ y.stop.rd = y.ref.appliedId ∧
        y.stop.rq = y.ref.appliedIq) ∧
      (4 < x.faults.mask → x.state ≠ .running → y.queue.starved = false ∧ y.queue.starvation = 0 ∧
        y.record.pending = [] ∧ y.record.active = (if x.faults.starvedEnd = .auto then none else some (.own .starved)) ∧
        y.state = if x.faults.starvedEnd = .auto then .disabled else .faulted)) ∧
  (∀ s c x r rest, x = s.ch c → s.resetHeld = false → s.isCoupled c = false → x.timebase.mode = .half →
    x.waiting.limits = none → x.waiting.thermal = none → x.waiting.faults = none → x.state = .stopping .rampFault →
    x.record.active = some (.own .starved) → x.record.pending = [] → x.faults.starvedEnd = .auto →
    x.queue.records = r :: rest → r.applyAt = x.tb.period + 1 →
    ∃ t, exec (.valley c) s = .next t ∧ ∀ y, y = t.ch c → (y.ref.tripped = true → x.ref.tripped = true) →
      y.record = { x.record with active := none } ∧ y.queue.starved = false ∧
      y.state = if x.stop.rd.natAbs ≤ x.limits.rampSlope ∧ x.stop.rq.natAbs ≤ x.limits.rampSlope then .disabled
        else .stopping .rampFault)

/-- The thermal update of a valley (R110, R112) from the currents of the last completed conversion and the continuous
current in force, in every configured state. The derate flag after a valley (R111): set above Awarn, cleared at Aclear
and below, and kept between them. An AUTO I2T that stands alone leaves at the valley that clears the trip flag, and no
sooner (R140): FAULTED passes to DISABLED (R147), and a ramp goes on until both its values are 0 (R137). -/
def Obligations.ValleyHeatsAndDerates : Prop :=
  (∀ s c, s.resetHeld = false → (s.ch c).state ≠ .unconfigured →
    ∃ t, exec (.valley c) s = .next t ∧ ∀ g ∈ s.group c, ∀ x y, x = s.ch g → y = t.ch g →
      (y.ref.accumulator : Int) = max 0 (min 4294967295 ((x.ref.accumulator : Int) +
        (x.sample.ia ^ 2 + x.sample.ib ^ 2 + x.sample.ic ^ 2) / 6144 - (y.limits.icont ^ 2 / 4096 : Nat))) ∧
      (x.waiting.thermal = none →
        (y.ref.tripped = true ↔
          (x.ref.tripped = true ∧ y.thermal.aclear < y.ref.accumulator) ∨
          (x.ref.tripped = false ∧ y.thermal.atrip ≤ y.ref.accumulator)) ∧
        (x.state ≠ .unconfigured → x.ref.tripped = false → y.ref.tripped = true → y.record.seen.getLsbD 9 = true))) ∧
  (∀ s c, s.resetHeld = false → (s.ch c).state ≠ .unconfigured →
    ∃ t, exec (.valley c) s = .next t ∧ ∀ g ∈ s.group c, ∀ x y, x = s.ch g → y = t.ch g →
      x.waiting.thermal = none → x.thermal.aclear < x.thermal.awarn →
      (x.thermal.awarn < y.ref.accumulator → y.ref.derate = true) ∧
      (y.ref.accumulator ≤ x.thermal.aclear → y.ref.derate = false) ∧
      (x.thermal.aclear < y.ref.accumulator → y.ref.accumulator ≤ x.thermal.awarn → y.ref.derate = x.ref.derate)) ∧
  (∀ s c x, x = s.ch c → s.resetHeld = false → s.isCoupled c = false → x.timebase.mode = .half →
    x.waiting.limits = none → x.waiting.thermal = none → x.waiting.faults = none →
    x.record.active = some (.own .i2t) → x.record.pending = [] → x.faults.i2tEnd = .auto → x.ref.tripped = true →
    x.state = .faulted ∨ x.state = .stopping .rampFault →
    ∃ t, exec (.valley c) s = .next t ∧ ∀ y, y = t.ch c →
      (y.ref.tripped = true → y.record = x.record) ∧
      (y.ref.tripped = false → y.record = { x.record with active := none } ∧
        y.state = if x.state = .faulted ∨
            (x.stop.rd.natAbs ≤ x.limits.rampSlope ∧ x.stop.rq.natAbs ≤ x.limits.rampSlope) then .disabled
          else .stopping .rampFault))

/-- The skew difference and the correction of a coupled pair at its valley (R119, R120), from the positions latched at
that valley; the half-up division by 256 is written out as the two bounds of its quotient. Supervision (R121): where both
channels run, a difference over the limit raises SKEW on both channels once, and each whose mask lets it enter starts a
ramp from the applied references of that valley; where it is raised already nothing is raised; where both stand in
DISABLED or CALIBRATING it is kept and not raised; a difference within the limit clears it. For the two channels in any
mixture of states, while no other source is raised at that valley and no entry is AUTO: SKEW is raised on both as soon as
one charges, runs, is parked, or stands in STOPPING after the stages; a channel in DISABLED, CALIBRATING, CHARGING or
PARKED that takes it becomes FAULTED, a ramp of the host becomes one of a fault, and a FAULTED channel stays so; where
both stand in DISABLED, CALIBRATING or FAULTED nothing is raised. -/
def Obligations.ValleyFormsSkew : Prop :=
  (∀ s c, s.resetHeld = false → (s.ch c).state ≠ .unconfigured → s.isCoupled c = true →
    ∃ t, exec (.valley c) s = .next t ∧ ∀ k m f, k = t.pair (pairOf c) → m = t.ch (masterOf (pairOf c)) →
      f = t.ch (followerOf (pairOf c)) →
      k.delta = max (-2147483647) (m.pos.latched - f.pos.latched - k.skewOffset).toInt ∧
      (∃ q : Int, 256 * q ≤ k.kskew * k.delta + 128 ∧ k.kskew * k.delta + 128 < 256 * (q + 1) ∧
        k.corr = max (-(k.corrMax : Int)) (min k.corrMax q)) ∧
      (k.skewHolds = true ↔ k.skewLimit < k.delta.natAbs) ∧
      k.coupled = true ∧ k.kskew = (s.pair (pairOf c)).kskew ∧ k.corrMax = (s.pair (pairOf c)).corrMax ∧
      k.skewLimit = (s.pair (pairOf c)).skewLimit ∧ k.skewOffset = (s.pair (pairOf c)).skewOffset) ∧
  (∀ s c k, s.resetHeld = false → s.isCoupled c = true →
    (∀ g ∈ s.group c, (s.ch g).timebase.mode = .half ∧ (s.ch g).record.entries = []) → k = s.pair (pairOf c) →
    ((∀ g ∈ s.group c, (s.ch g).state = .running) → ∃ t, exec (.valley c) s = .next t ∧ ∀ m, m = t.pair (pairOf c) →
      (k.skewLimit < m.delta.natAbs → m.skewRaised = true ∧ ∀ g ∈ s.group c, ∀ x y, x = s.ch g → y = t.ch g →
        (k.skewRaised = true → y.record.seen.getLsbD 7 = x.record.seen.getLsbD 7) ∧
        (k.skewRaised = false → y.record.seen.getLsbD 7 = true) ∧
        (k.skewRaised = false → 2 < y.faults.mask → y.record.holds (.own .skew) = true ∧
          y.state = .stopping .rampFault ∧ y.stop.rd = y.ref.appliedId ∧ y.stop.rq = y.ref.appliedIq)) ∧
      (m.delta.natAbs ≤ k.skewLimit → m.skewRaised = false)) ∧
    ((∀ g ∈ s.group c, (s.ch g).state = .disabled ∨ (s.ch g).state = .calibrating) →
      ∃ t, exec (.valley c) s = .next t ∧ ∀ m, m = t.pair (pairOf c) →
        (k.skewLimit < m.delta.natAbs → m.skewRaised = k.skewRaised ∧ ∀ g ∈ s.group c,
          (t.ch g).record.seen.getLsbD 7 = (s.ch g).record.seen.getLsbD 7) ∧
        (m.delta.natAbs ≤ k.skewLimit → m.skewRaised = false))) ∧
  (∀ s c k, s.resetHeld = false → s.isCoupled c = true → k = s.pair (pairOf c) → s.bus.uvSet = false →
    (∀ g ∈ s.group c, ∀ x, x = s.ch g → x.state ≠ .unconfigured ∧ x.timebase.mode = .half ∧
      (x.record.active = none → x.record.pending = []) ∧ (∀ e ∈ x.record.entries, e.endMode x.faults = .held) ∧
      x.waiting.limits = none ∧ x.waiting.thermal = none ∧ x.waiting.faults = none ∧
      x.queue.starvation + 1 < x.limits.holdLimit) →
    ∃ t, exec (.valley c) s = .next t ∧
      ((∀ g ∈ s.group c, (t.ch g).ref.tripped = true → (s.ch g).ref.tripped = true) → ∀ m, m = t.pair (pairOf c) →
        (m.delta.natAbs ≤ k.skewLimit → m.skewRaised = false) ∧
        (k.skewLimit < m.delta.natAbs → k.skewRaised = true → m.skewRaised = true ∧
          ∀ g ∈ s.group c, (t.ch g).record = (s.ch g).record) ∧
        (k.skewLimit < m.delta.natAbs → k.skewRaised = false →
          (∀ g ∈ s.group c, (s.ch g).state ∈ [.disabled, .calibrating, .faulted]) → m.skewRaised = false ∧
          ∀ g ∈ s.group c, (t.ch g).record = (s.ch g).record ∧ (t.ch g).state = (s.ch g).state) ∧
        (k.skewLimit < m.delta.natAbs → k.skewRaised = false →
          (∃ g ∈ s.group c, (s.ch g).state.isReference = true ∨ (t.ch g).state.isStopping = true) →
          m.skewRaised = true ∧ ∀ g ∈ s.group c, ∀ x y, x = s.ch g → y = t.ch g →
            y.record.seen.getLsbD 7 = true ∧ (x.state = .faulted → y.state = .faulted) ∧
            (2 < y.faults.mask → y.record.holds (.own .skew) = true ∧
              (x.record.entries = [] →
                x.state ∈ [.disabled, .calibrating, .charging, .parked] → y.state = .faulted ∧
                  y.record.active = some (.own .skew)) ∧
              (x.record.entries = [] → x.state = .stopping .rampHost → y.state.isStopping = true →
                y.state = .stopping .rampFault)))))

/-- The applied references of every valley lie in the circle (R106): |id| is at most the smaller of Id_lim and the
radius, and id² + iq² at most the radius squared, the radius being Icont while the derate flag of that valley is set
and Ilim while it is clear. They are the base reference of that valley (R97) taken through the five stages (R98 to
R107): on the support channel the support current in ride-through (R99, R168), in a coupled pair the correction, taken
from the master and given to the follower (R100), no torque into a direction that a containing window or an active limit
input blocks (R103, R104), the smallest cap of the containing windows (R105), and the circle; each flag tells what its
stage did (R107). That the corrected flag needs a correction other than 0 is the model's reading (log 18). -/
def Obligations.ReferencesWithinCircle : Prop :=
  (∀ s c, s.resetHeld = false → (s.ch c).state ≠ .unconfigured →
    ∃ t, exec (.valley c) s = .next t ∧ ∀ g ∈ s.group c, ∀ y radius, y = t.ch g →
      radius = (if y.ref.derate then y.limits.icont else y.limits.ilim) →
      y.ref.appliedId.natAbs ≤ min y.limits.idLim radius ∧
      y.ref.appliedId ^ 2 + y.ref.appliedIq ^ 2 ≤ (radius : Int) ^ 2) ∧
  ∀ s c, s.resetHeld = false → (s.ch c).state ≠ .unconfigured →
    ∃ t, exec (.valley c) s = .next t ∧ ∀ g ∈ s.group c, ∀ y f l inside corr, y = t.ch g → f = y.ref.flags →
      l = t.ch (s.leader c) →
      inside = y.windows.filter (fun w =>
        w.enabled && decide (w.base.toInt ≤ y.pos.latched.toInt ∧ y.pos.latched.toInt ≤ w.limit.toInt)) →
      corr = (t.pair (pairOf c)).corr →
      (y.state.isReference = true → l.state.isReference = true → y.ref.baseId = l.queue.baseId ∧
        y.ref.baseIq = l.queue.baseIq ∧ y.ref.vff = if f.override then 0 else l.queue.periodVff) ∧
      ((s.ch g).state.ramps = true → y.state.ramps = true →
        y.ref.baseId = y.stop.rd ∧ y.ref.baseIq = y.stop.rq ∧ y.ref.vff = 0) ∧
      (f.override = true → s.bus.ride = .rideThrough ∧ ∃ p, s.bus.profile = some p ∧ p.support = some g) ∧
      (y.state.isReference = true → s.bus.ride = .rideThrough → ∀ p, s.bus.profile = some p → p.support = some g →
        f.override = true) ∧
      (f.corrected = true → s.isCoupled c = true ∧ corr ≠ 0) ∧
      (y.state.isReference = true ∨ y.state.ramps = true → s.isCoupled c = true → corr ≠ 0 → f.corrected = true) ∧
      (f.posBlocked = true ↔ (∃ w ∈ inside, w.blockPos = true) ∨
        ∃ i, (s.input i).active = true ∧ (s.input i).function = .limitPos g) ∧
      (f.negBlocked = true ↔ (∃ w ∈ inside, w.blockNeg = true) ∨
        ∃ i, (s.input i).active = true ∧ (s.input i).function = .limitNeg g) ∧
      (∀ k, y.ref.cap = some k ↔ (∃ w ∈ inside, w.capPresent = true ∧ w.cap = k) ∧
        ∀ w ∈ inside, w.capPresent = true → k ≤ w.cap) ∧
      ∀ (support iq1 iq2 iq3 iq4 : Int) (radius : Nat),
        (∀ p, s.bus.profile = some p → ∃ q : Int, 256 * q ≤ p.kbus * ((p.uSupport : Int) - y.pos.udc) + 128 ∧
          p.kbus * ((p.uSupport : Int) - y.pos.udc) + 128 < 256 * (q + 1) ∧
          support = -(Int.sign y.pos.omega) * max 0 (min (p.isupMax : Int) q)) →
        iq1 = (if f.override then support else y.ref.baseIq) → iq1.natAbs ≤ 32767 →
        iq2 = (if f.corrected then
            max (-32767) (min 32767 (if g = masterOf (pairOf c) then iq1 - corr else iq1 + corr)) else iq1) →
        iq3 = (if f.posBlocked && f.negBlocked then 0 else if f.posBlocked then min iq2 0
          else if f.negBlocked then max iq2 0 else iq2) →
        (∀ k, y.ref.cap = some k → iq4 = max (-(k : Int)) (min k iq3)) → (y.ref.cap = none → iq4 = iq3) →
        radius = (if y.ref.derate then y.limits.icont else y.limits.ilim) →
        (∀ bound : Int, bound = (min y.limits.idLim radius : Nat) →
          y.ref.appliedId = max (-bound) (min bound y.ref.baseId)) ∧
        (∃ w : Nat, (w : Int) ^ 2 ≤ (radius : Int) ^ 2 - y.ref.appliedId ^ 2 ∧
          (radius : Int) ^ 2 - y.ref.appliedId ^ 2 < ((w : Int) + 1) ^ 2 ∧
          y.ref.appliedIq = max (-(w : Int)) (min w iq4)) ∧
        (f.capped = true ↔ iq4 ≠ iq3) ∧
        (f.circleLimited = true ↔ y.ref.appliedId ≠ y.ref.baseId ∨ y.ref.appliedIq ≠ iq4) ∧
        (∀ p, s.bus.profile = some p → p.support = some g →
          t.bus.supportCurrent = if f.override then support else 0)

/-- The record due at a valley of a running channel reaches its applied references (R86, R97 to R106): where it lies
in the circle and nothing overrides, corrects, blocks or caps it, the applied references are the record's values, and
the feed-forward is the record's. -/
def Obligations.SetpointReachesReference : Prop :=
  ∀ s c r rest, s.resetHeld = false → s.isCoupled c = false → (s.ch c).state = .running →
    (s.ch c).timebase.mode = .half → (s.ch c).record.entries = [] → (s.ch c).waiting = Waiting.none →
    (s.ch c).windows = [] → (∀ i, (s.input i).function ≠ .limitPos c ∧ (s.input i).function ≠ .limitNeg c) →
    (∀ p, s.bus.profile = some p → p.support ≠ some c) →
    (s.ch c).queue.records = r :: rest → r.applyAt = (s.ch c).tb.period + 1 →
    ∃ t, exec (.valley c) s = .next t ∧
      ∀ y radius, y = t.ch c → radius = (if y.ref.derate then (s.ch c).limits.icont else (s.ch c).limits.ilim) →
        r.id.natAbs ≤ min (s.ch c).limits.idLim radius → r.id ^ 2 + r.iq ^ 2 ≤ (radius : Int) ^ 2 →
        y.ref.appliedId = r.id ∧ y.ref.appliedIq = r.iq ∧ y.ref.vff = r.vff.getD 0 ∧
        y.ref.baseId = r.id ∧ y.ref.baseIq = r.iq ∧ y.ref.flags = BlockFlags.clear

/-- A parked channel wakes at the valley whose record asks for current, and enters CHARGING (R59, R63); a held
reference or a record of zeros leaves it parked, while neither the starvation run nor the thermal model raises a source
at that valley. A ramp of the host steps both values toward 0 by the slope at each valley, and ends in DISABLED at the
valley at which both are 0 (R66), where the thermal model raises no source at that valley. A ramp of a fault so ends in
FAULTED, its record as it was (R66, R69). A short brake counts its slow valleys and ends at the eighth in a row with the
reason SPEED (R67), in FAULTED, or in DISABLED where no entry is left. In RUNNING the park timer starts, runs on or is
stopped by the park condition, for a pair by that of both channels on the master's timer (R61, R124). A parked pair wakes
together, into CHARGING with the charge timer on the master alone (R124). Two ramps of a pair end together, at the valley
at which all four values are 0, each by its own cause; until then each stays in STOPPING (R125). Both are said where no
source is raised at that valley and no entry is AUTO. -/
def Obligations.ParkedChannelWakesAndRampEnds : Prop :=
  (∀ s c, s.resetHeld = false → s.isCoupled c = false → (s.ch c).state = .parked →
    (s.ch c).timebase.mode = .half → (s.ch c).record.entries = [] → s.bus.uvSet = false →
    (∀ v, (s.ch c).waiting.limits = some v → (s.ch c).queue.starvation + 1 < v.holdLimit) →
    ((s.ch c).waiting.limits = none → (s.ch c).queue.starvation + 1 < (s.ch c).limits.holdLimit) →
    (s.ch c).waiting.thermal = none →
    ∃ t, exec (.valley c) s = .next t ∧ (((t.ch c).ref.tripped = true → (s.ch c).ref.tripped = true) →
      (∀ r rest, (s.ch c).queue.records = r :: rest → r.applyAt = (s.ch c).tb.period + 1 → r.id ≠ 0 ∨ r.iq ≠ 0 →
        (t.ch c).state = .charging ∧ (t.ch c).op.inProgress = some .charge ∧ (t.ch c).op.done = false ∧
        (t.ch c).timers.charge = some (t.now + (t.ch c).idle.tBoot * 80) ∧ (t.ch c).timers.park = none ∧
        (t.ch c).loopState.intD = 0 ∧ (t.ch c).loopState.intQ = 0 ∧ (t.ch c).eng.consecutiveLate = 0) ∧
      ((∀ r, (s.ch c).queue.records.head? = some r → r.applyAt = (s.ch c).tb.period + 1 → r.id = 0 ∧ r.iq = 0) →
        (t.ch c).state = .parked))) ∧
  (∀ s c, s.resetHeld = false → s.isCoupled c = false → (s.ch c).state = .stopping .rampHost →
    (s.ch c).timebase.mode = .half → (s.ch c).record.entries = [] → (s.ch c).waiting.limits = none →
    (s.ch c).waiting.thermal = none → (s.ch c).op.inProgress = some .hostStop →
    ∃ t, exec (.valley c) s = .next t ∧
      ∀ x y, x = s.ch c → y = t.ch c → (y.ref.tripped = true → x.ref.tripped = true) →
        (x.stop.rd.natAbs ≤ x.limits.rampSlope → x.stop.rq.natAbs ≤ x.limits.rampSlope →
          y.state = .disabled ∧ y.tb.gateMode = .off ∧ y.stop.rd = 0 ∧ y.stop.rq = 0 ∧
          y.op = { inProgress := none, done := true, last := some (.hostStop, .completed) } ∧ y.queue.records = [] ∧
          y.eng.slot = .empty ∧ y.eng.mark = none) ∧
        (x.limits.rampSlope < x.stop.rd.natAbs ∨ x.limits.rampSlope < x.stop.rq.natAbs →
          y.state = .stopping .rampHost ∧ y.op = x.op ∧
          ∀ old new, (old = x.stop.rd ∧ new = y.stop.rd) ∨ (old = x.stop.rq ∧ new = y.stop.rq) →
            (old.natAbs ≤ x.limits.rampSlope → new = 0) ∧
            ((x.limits.rampSlope : Int) < old → new = old - x.limits.rampSlope) ∧
            (old < -(x.limits.rampSlope : Int) → new = old + x.limits.rampSlope))) ∧
  (∀ s c x, x = s.ch c → s.resetHeld = false → s.isCoupled c = false → x.timebase.mode = .half →
    x.record.entries ≠ [] ∨ x.state = .stopping .brake → (x.record.active = none → x.record.pending = []) →
    (∀ e ∈ x.record.entries, e.endMode x.faults = .held) → x.waiting.limits = none → x.waiting.thermal = none →
    x.waiting.faults = none →
    ∃ t, exec (.valley c) s = .next t ∧ ∀ y, y = t.ch c → (y.ref.tripped = true → x.ref.tripped = true) →
      (x.state = .stopping .rampFault → x.op.inProgress = some .faultStop →
        (x.stop.rd.natAbs ≤ x.limits.rampSlope → x.stop.rq.natAbs ≤ x.limits.rampSlope →
          y.state = .faulted ∧ y.tb.gateMode = .off ∧ y.stop.rd = 0 ∧ y.stop.rq = 0 ∧ y.record = x.record ∧
          y.op = { inProgress := none, done := true, last := some (.faultStop, .completed) } ∧ y.queue.records = [] ∧
          y.eng.slot = .empty ∧ y.eng.mark = none) ∧
        (x.limits.rampSlope < x.stop.rd.natAbs ∨ x.limits.rampSlope < x.stop.rq.natAbs →
          y.state = .stopping .rampFault ∧ y.op = x.op ∧ y.record = x.record)) ∧
      (x.state = .stopping .brake → x.op.inProgress = some .brake → ∀ slow,
        slow = (if y.pos.omega.natAbs ≤ x.limits.brakeSpeed then x.stop.slowCount + 1 else 0) →
        (slow < 8 → y.state = .stopping .brake ∧ y.stop.slowCount = slow ∧ y.op = x.op ∧ y.timers.brake = x.timers.brake ∧
          y.record = x.record) ∧
        (8 ≤ slow → y.state = (if x.record.entries = [] then .disabled else .faulted) ∧ y.tb.gateMode = .off ∧
          y.stop.brakeEnd = .speed ∧ y.timers.brake = none ∧ y.record = x.record ∧ y.queue.records = [] ∧
          y.op = { inProgress := none, done := true, last := some (.brake, .completed) }))) ∧
  (∀ s c, s.resetHeld = false → (∀ g ∈ s.group c, (s.ch g).state = .running) →
    ∃ t, exec (.valley c) s = .next t ∧ ((∀ g ∈ s.group c, (t.ch g).state = .running) →
      ∀ l, l = t.ch (s.leader c) →
        (l.idle.parkAllowed = true → (∀ g ∈ s.group c, (t.ch g).ref.appliedId = 0 ∧ (t.ch g).ref.appliedIq = 0 ∧
            (t.ch g).pos.omega = 0) →
          l.timers.park = some ((s.ch (s.leader c)).timers.park.getD (t.now + 2 ^ l.idle.parkExponent * 80000))) ∧
        (l.idle.parkAllowed = false ∨ (∃ g ∈ s.group c, (t.ch g).ref.appliedId ≠ 0 ∨ (t.ch g).ref.appliedIq ≠ 0 ∨
            (t.ch g).pos.omega ≠ 0) →
          l.timers.park = none))) ∧
  (∀ s c k l r rest, k = s.pair (pairOf c) → l = masterOf (pairOf c) → s.resetHeld = false → s.isCoupled c = true →
    s.bus.uvSet = false →
    (∀ g ∈ s.group c, ∀ x, x = s.ch g → x.state = .parked ∧ x.timebase.mode = .half ∧ x.record.entries = [] ∧
      x.waiting.thermal = none) →
    (s.ch l).queue.records = r :: rest → r.applyAt = (s.ch l).tb.period + 1 → r.id ≠ 0 ∨ r.iq ≠ 0 →
    ∃ t, exec (.valley c) s = .next t ∧ (((t.pair (pairOf c)).skewRaised = true → k.skewRaised = true) →
      (∀ g ∈ s.group c, (t.ch g).ref.tripped = true → (s.ch g).ref.tripped = true) →
      ∀ g ∈ s.group c, ∀ y, y = t.ch g → y.state = .charging ∧ y.op.inProgress = some .charge ∧ y.op.done = false ∧
        y.timers.park = none ∧ y.timers.charge = if g = l then some (t.now + y.idle.tBoot * 80) else none)) ∧
  (∀ s c k, k = s.pair (pairOf c) → s.resetHeld = false → s.isCoupled c = true →
    (∀ g ∈ s.group c, ∀ x, x = s.ch g → x.timebase.mode = .half ∧ (x.record.active = none → x.record.pending = []) ∧
      (∀ e ∈ x.record.entries, e.endMode x.faults = .held) ∧ x.waiting.limits = none ∧ x.waiting.thermal = none ∧
      x.waiting.faults = none ∧
      ((x.state = .stopping .rampHost ∧ x.op.inProgress = some .hostStop) ∨
        (x.state = .stopping .rampFault ∧ x.op.inProgress = some .faultStop))) →
    ∃ t, exec (.valley c) s = .next t ∧ (((t.pair (pairOf c)).skewRaised = true → k.skewRaised = true) →
      (∀ g ∈ s.group c, (t.ch g).ref.tripped = true → (s.ch g).ref.tripped = true) → ∀ ends : Bool,
      (ends = true ↔ ∀ g ∈ s.group c, (s.ch g).stop.rd.natAbs ≤ (s.ch g).limits.rampSlope ∧
        (s.ch g).stop.rq.natAbs ≤ (s.ch g).limits.rampSlope) →
      ∀ g ∈ s.group c, ∀ x y, x = s.ch g → y = t.ch g → y.record = x.record ∧
        (ends = false → y.state = x.state ∧ y.op = x.op ∧
          (x.stop.rd.natAbs ≤ x.limits.rampSlope → y.stop.rd = 0) ∧
          (x.stop.rq.natAbs ≤ x.limits.rampSlope → y.stop.rq = 0)) ∧
        (ends = true → y.tb.gateMode = .off ∧ y.stop.rd = 0 ∧ y.stop.rq = 0 ∧ y.queue.records = [] ∧
          y.eng.slot = .empty ∧ y.eng.mark = none ∧
          (x.state = .stopping .rampHost → y.state = .disabled ∧
            y.op = { inProgress := none, done := true, last := some (.hostStop, .completed) }) ∧
          (x.state = .stopping .rampFault → y.state = (if x.record.entries = [] then .disabled else .faulted) ∧
            y.op = { inProgress := none, done := true, last := some (.faultStop, .completed) }))))

/-! ## Peaks and ticks -/

/-- At a peak the counter stands at N and counts down. In HALF mode it is the load point: a staged set takes effect and
is emptied, a waiting request expires, and the marked period is judged on time or late (R4, R43, R45, R48, R49); in
FULL mode nothing more happens. It says so where the peak raises no LATE. In FULL mode the valley does the same to a
running channel that is not late (R4). Model's choices: the counter is set to N whatever it shows (log 1), the clock
moves to the peak (log 2), one peak acts on both channels of a coupled pair (log 5), and in FULL mode the load
point's place in the valley, after step 2 (log 6), and that it is judged by a late limit which comes into force at that valley (log
38). Where a waiting TIMEBASE comes into force while the gates modulate, the compare values take half duty of the new
N and the staged set is emptied (R1). -/
def Obligations.PeakTakesStagedSet : Prop :=
  (∀ s c, s.resetHeld = false → (s.ch c).state ≠ .unconfigured →
    (∀ g ∈ s.group c, (s.ch g).timebase.mode = .half → (s.ch g).eng.mark = none ∨ (s.ch g).tb.staged ≠ none ∨
      min 15 ((s.ch g).eng.consecutiveLate + 1) < (s.ch g).limits.lateLimit) →
    ∃ t, exec (.peak c) s = .next t ∧ s.OthersKept (s.group c) t ∧
      t = { s with
        now := max s.now ((s.ch (s.leader c)).tb.periodStart +
          (s.ch (s.leader c)).timebase.n * (s.ch (s.leader c)).timebase.prescale)
        channels := t.channels
        engine := s.engine.map (fun k =>
          if k.request.channel ∈ s.group c ∧ (s.ch k.request.channel).timebase.mode = .half then
            { k with missed := true }
          else k) } ∧
      ∀ g ∈ s.group c, ∀ x y, x = s.ch g → y = t.ch g →
        y = { x with
          eng := y.eng
          tb := { x.tb with
            counter := x.timebase.n
            up := false
            compare := y.tb.compare
            staged := y.tb.staged
            phaseA := y.tb.phaseA
            phaseB := y.tb.phaseB
            phaseC := y.tb.phaseC } } ∧
        (x.timebase.mode = .full → y.eng = x.eng ∧ y.tb.compare = x.tb.compare ∧ y.tb.staged = x.tb.staged) ∧
        (x.timebase.mode = .half →
          y.tb.compare = x.tb.staged.getD x.tb.compare ∧ y.tb.staged = none ∧
          y.eng = { x.eng with
            slot := y.eng.slot
            mark := none
            consecutiveLate :=
              if x.eng.mark = none then x.eng.consecutiveLate
              else if x.tb.staged ≠ none then 0 else min 15 (x.eng.consecutiveLate + 1)
            latePeriods :=
              if x.eng.mark ≠ none ∧ x.tb.staged = none then min 65535 (x.eng.latePeriods + 1)
              else x.eng.latePeriods } ∧
          (∀ r, x.eng.slot = .waiting r → y.eng.slot = .expired r) ∧
          ((∀ r, x.eng.slot ≠ .waiting r) → y.eng.slot = x.eng.slot))) ∧
  (∀ s c, s.resetHeld = false →
    (∀ g ∈ s.group c, ∀ x, x = s.ch g → x.state = .running ∧ x.tb.gateMode = .modulate ∧ x.timebase.mode = .full ∧
      x.record.entries = [] ∧ x.waiting.timebase = none ∧ (x.eng.mark = none ∨ x.tb.staged ≠ none ∨
        min 15 (x.eng.consecutiveLate + 1) < (x.waiting.limits.getD x.limits).lateLimit)) →
    ∃ t, exec (.valley c) s = .next t ∧
      t.engine = s.engine.map (fun k => if k.request.channel ∈ s.group c then { k with missed := true } else k) ∧
      ∀ g ∈ s.group c, ∀ x y, x = s.ch g → y = t.ch g →
        y.tb.compare = x.tb.staged.getD x.tb.compare ∧ y.tb.staged = none ∧
        y.eng = { x.eng with
          slot := y.eng.slot
          mark := none
          consecutiveLate :=
            if x.eng.mark = none then x.eng.consecutiveLate
            else if x.tb.staged ≠ none then 0 else min 15 (x.eng.consecutiveLate + 1)
          latePeriods :=
            if x.eng.mark ≠ none ∧ x.tb.staged = none then min 65535 (x.eng.latePeriods + 1)
            else x.eng.latePeriods } ∧
        (∀ r, x.eng.slot = .waiting r → y.eng.slot = .expired r) ∧
        ((∀ r, x.eng.slot ≠ .waiting r) → y.eng.slot = x.eng.slot)) ∧
  (∀ s c, s.resetHeld = false → (s.ch c).state ≠ .unconfigured →
    ∃ t, exec (.valley c) s = .next t ∧ ∀ g ∈ s.group c, ∀ v, (s.ch g).tb.gateMode = .modulate →
      (s.ch g).waiting.timebase = some v →
      (t.ch g).tb.compare = { a := v.n / 2, b := v.n / 2, c := v.n / 2 } ∧ (t.ch g).tb.staged = none)

/-- A tick of the prescaled clock moves the counter up to N and down to 0, and turns demands into outputs under the
dead-time rule (R1, R6, R7). In UNCONFIGURED the counter is held, and the tick only adds to the time for which each
output has been off, which R7 counts (log 17). One tick is the tick of both channels of a coupled pair (log 5), and moves
the clock on (log 2). -/
def Obligations.TickObeysDeadTime : Prop :=
  (∀ s c x, x = s.ch c → s.resetHeld = false → x.state = .unconfigured →
    ∃ y, exec (.prescaledClockTick c) s = .next (s.setCh c y) ∧
      y = { x with tb := { x.tb with
        phaseA := y.tb.phaseA
        phaseB := y.tb.phaseB
        phaseC := y.tb.phaseC } } ∧
      ∀ p q, (p, q) = (x.tb.phaseA, y.tb.phaseA) ∨ (p, q) = (x.tb.phaseB, y.tb.phaseB) ∨
          (p, q) = (x.tb.phaseC, y.tb.phaseC) →
        q.high.on = p.high.on ∧ q.low.on = p.low.on ∧
        (p.high.on = false → q.high.offTicks = min 255 (p.high.offTicks + 1)) ∧
        (p.low.on = false → q.low.offTicks = min 255 (p.low.offTicks + 1))) ∧
  ∀ s c, s.resetHeld = false → (s.ch c).state ≠ .unconfigured →
    ∃ t, exec (.prescaledClockTick c) s = .next t ∧ s.OthersKept (s.group c) t ∧
      t = { s with now := t.now, channels := t.channels } ∧ s.now ≤ t.now ∧
      ∀ g ∈ s.group c, ∀ x y, x = s.ch g → y = t.ch g →
        y = { x with tb := { x.tb with
          counter := if x.tb.up then x.tb.counter + 1 else x.tb.counter - 1
          up := if x.tb.up then decide (x.tb.counter + 1 < x.timebase.n) else decide (x.tb.counter ≤ 1)
          phaseA := y.tb.phaseA
          phaseB := y.tb.phaseB
          phaseC := y.tb.phaseC } } ∧
        ∀ cx p q, (cx, p, q) = (x.tb.compare.a, x.tb.phaseA, y.tb.phaseA) ∨
            (cx, p, q) = (x.tb.compare.b, x.tb.phaseB, y.tb.phaseB) ∨
            (cx, p, q) = (x.tb.compare.c, x.tb.phaseC, y.tb.phaseC) →
          (x.tb.gateMode = .off → PhaseFollows false false x.timebase.dt p q) ∧
          (x.tb.gateMode = .lowOn → PhaseFollows false true x.timebase.dt p q) ∧
          (x.tb.gateMode = .modulate →
            PhaseFollows (decide (x.timebase.n ≤ y.tb.counter + cx)) (decide (y.tb.counter + cx < x.timebase.n))
              x.timebase.dt p q)

/-! ## Sampling and faults that turn the gates off -/

/-- A conversion completion forms the three currents from the raw samples and the offsets, evaluates the trip condition
and ends the conversion, for every channel of the command, which names each channel once (R9, R10, R11). Outside those
channels and their pairs only the engine's grant acts. That the clock moves to the moment of the completions is the
model's choice (log 2), and so is that one command may hold several (log 21). -/
def Obligations.ConversionFormsCurrents : Prop :=
  ∀ s (rs : List RawSample), s.resetHeld = false → (rs.map RawSample.channel).Nodup →
    (∀ r ∈ rs, (s.ch r.channel).state ≠ .unconfigured ∧ (s.ch r.channel).sample.converting = true) →
    ∃ t, exec (.conversionCompletion rs) s = .next t ∧ s.now ≤ t.now ∧
      (∀ r ∈ rs, (s.ch r.channel).tb.periodStart + 80 ≤ t.now) ∧
      (t.now = s.now ∨ ∃ r ∈ rs, t.now = (s.ch r.channel).tb.periodStart + 80) ∧
      (∀ d, (∀ r ∈ rs, d ∉ s.group r.channel) →
        t.ch d = { s.ch d with eng := { (s.ch d).eng with slot := (t.ch d).eng.slot } }) ∧
      t.pairs = s.pairs ∧ t.bus = s.bus ∧ t.inputs = s.inputs ∧ t.commands = s.commands ∧ t.link = s.link ∧
      ∀ r ∈ rs, ∀ x y, x = s.ch r.channel → y = t.ch r.channel →
        y.sample = { x.sample with
          converting := false
          ia := max (-32767) (min 32767 (16 * ((r.rawA.toNat : Int) - x.sensing.offA)))
          ib := max (-32767) (min 32767 (16 * ((r.rawB.toNat : Int) - x.sensing.offB)))
          ic := max (-32767) (min 32767 (-y.sample.ia - y.sample.ib))
          trip := decide (x.sensing.itrip ≤ y.sample.ia.natAbs ∨ x.sensing.itrip ≤ y.sample.ib.natAbs ∨
            x.sensing.itrip ≤ y.sample.ic.natAbs) }

/-- A completion in RUNNING, or in STOPPING with a ramp, forms the engine request of the period from the latest
currents and the values latched at the valley, and marks the period (R9, R19, R42). Where several complete in one
command, which names each channel once (log 21), each forms its request, and one grant is made among all that then wait:
a busy engine leaves every one waiting; a free one takes the nearest deadline, the lowest channel on a tie, its
integrators read, and the others stay waiting (R44, R45). It says so where no completion of the command finds a trip
condition that did not hold before. -/
def Obligations.ConversionFormsRequest : Prop :=
  ∀ s (rs : List RawSample), s.resetHeld = false → (rs.map RawSample.channel).Nodup →
    ∃ t, exec (.conversionCompletion rs) s = .next t ∧
      ((∀ r ∈ rs, (t.ch r.channel).sample.trip = true → (s.ch r.channel).sample.trip = true) →
        (∀ r ∈ rs, ∀ x y, x = s.ch r.channel → y = t.ch r.channel →
          x.state.computes = true → x.sample.converting = true →
          y.state = x.state ∧ y.eng.mark = some x.tb.period ∧
          ((∀ q, x.eng.slot ≠ .expired q) → y.eng.replaced = x.eng.replaced) ∧
          (∀ q, x.eng.slot = .expired q → y.eng.replaced = min 65535 (x.eng.replaced + 1))) ∧
        ∀ waits : ChannelId → Option EngineRequest,
          (∀ r ∈ rs, (s.ch r.channel).state.computes = true → (s.ch r.channel).sample.converting = true →
            waits r.channel = some (requestFormed r.channel (s.ch r.channel) (t.ch r.channel))) →
          (∀ d, (∀ r ∈ rs, r.channel = d → (s.ch d).state.computes = false ∨ (s.ch d).sample.converting = false) →
            ∀ q, waits d = some q ↔ (s.ch d).eng.slot = .waiting q) →
          (∀ k, s.engine = some k → t.engine = some k ∧
            ∀ d q, waits d = some q → (t.ch d).eng.slot = .waiting q) ∧
          (s.engine = none →
            ((∀ d, waits d = none) → t.engine = none) ∧
            ((∃ d, waits d ≠ none) → ∃ c q, waits c = some q ∧
              (∀ d p, waits d = some p → q.deadline < p.deadline ∨ (q.deadline = p.deadline ∧ c ≤ d)) ∧
              t.engine = some
                { request := q, intD := (s.ch q.channel).loopState.intD, intQ := (s.ch q.channel).loopState.intQ,
                  grantedAt := t.now, missed := false, left := false, wasReset := false } ∧
              (t.ch q.channel).eng.slot = .empty ∧
              ∀ d p, d ≠ q.channel → waits d = some p → (t.ch d).eng.slot = .waiting p)))

/-- A completion in CALIBRATING adds the raw samples to the sums; the 1024th ends the calibration: the offsets take the
half-up averages, the record is cleared, the channel stands in DISABLED, and the CALIBRATED event carries the new
offsets, behind the STATE event (R56, R72). -/
def Obligations.CalibrationAccumulates : Prop :=
  ∀ s r x, x = s.ch r.channel → s.resetHeld = false → x.state = .calibrating → x.sample.converting = true →
    x.op.inProgress = some .calibrate →
    ∃ t, exec (.conversionCompletion [r]) s = .next t ∧
      ∀ y, y = t.ch r.channel → (y.sample.trip = true → x.sample.trip = true) →
        (x.cal.count + 1 < 1024 → y.state = .calibrating ∧ y.sensing = x.sensing ∧ y.op = x.op ∧
          y.cal = { x.cal with
            sumA := x.cal.sumA + r.rawA.toNat
            sumB := x.cal.sumB + r.rawB.toNat
            count := x.cal.count + 1 }) ∧
        (x.cal.count + 1 = 1024 → y.state = .disabled ∧
          y.sensing = { x.sensing with
            offA := (x.cal.sumA + r.rawA.toNat + 512) / 1024
            offB := (x.cal.sumB + r.rawB.toNat + 512) / 1024 } ∧
          y.cal = { x.cal with condition := .empty, sumA := 0, sumB := 0, count := 0 } ∧
          y.op = { inProgress := none, done := true, last := some (.calibrate, .completed) } ∧
          (s.RoomFor 2 → s.Sends t
            [[3, BitVec.ofNat 8 r.channel.val, 2, 1] ++ le16 x.tb.period.toNat,
              [4, BitVec.ofNat 8 r.channel.val] ++ le16 y.sensing.offA ++ le16 y.sensing.offB]))

/-- The sources DRIVER, OVERCURRENT and LATE stop a running channel that nothing shields: it is FAULTED with all gates
off (R11, R12, R49, R68, R69). For DRIVER the FAULT and the STATE event are sent as well (R56, R149); that fewer than two
agreeing samples of its line, given in one command, change nothing is the model's choice (log 15), and so is that the
clock stands still at them (log 54). The release of the
line, which two agreeing samples show too, ends the condition of DRIVER and changes nothing else where every entry is HELD
(R12, R141). LATE is raised at the
peak, and in FULL mode at the valley, with the period number that the valley has produced (R2, R4); that the load point
of such a valley stands after step 2 and before step 3, so that the period number and Udc are those of this valley and
the applied iq that of the one before (log 6), and that it is judged by a late limit which comes into force there
(log 38), is the model's choice. On a coupled pair a
DRIVER on one channel raises PARTNER on the other, which takes the cause's reaction and end mode and stops that channel
too (R126). -/
def Obligations.GatesOffSourcesStopChannel : Prop :=
  (∀ s c agreeing, s.RunsClear c 0 → (s.ch c).sample.driverAsserted = false →
    (agreeing < 2 → exec (.gateDriverLineChange c true agreeing) s = .next s) ∧
    (2 ≤ agreeing → ∃ t, exec (.gateDriverLineChange c true agreeing) s = .next t ∧ t.StoppedBy c .driver ∧
      s.OthersKept [c] t ∧ (t.ch c).sample.driverAsserted = true ∧
      (s.RoomFor 2 → s.Sends t
        [[1, BitVec.ofNat 8 c.val, 2, 0xFF, 2] ++ le16 (s.ch c).tb.period.toNat,
          [3, BitVec.ofNat 8 c.val, 4, 7] ++ le16 (s.ch c).tb.period.toNat]))) ∧
  (∀ s c agreeing x, x = s.ch c → s.resetHeld = false → x.sample.driverAsserted = true →
    (∀ g ∈ s.group c, ∀ e ∈ (s.ch g).record.entries, e.endMode (s.ch g).faults = .held) →
    exec (.gateDriverLineChange c false agreeing) s = .next
      (if agreeing < 2 then s else s.setCh c { x with sample := { x.sample with driverAsserted := false } })) ∧
  (∀ s r, s.RunsClear r.channel 0 → (s.ch r.channel).sample.converting = true →
    ∃ t, exec (.conversionCompletion [r]) s = .next t ∧
      ((t.ch r.channel).sample.trip = true → (s.ch r.channel).sample.trip = false →
        t.StoppedBy r.channel .overcurrent)) ∧
  (∀ s c, s.RunsClear c 1 → (s.ch c).timebase.mode = .half → (s.ch c).eng.mark ≠ none → (s.ch c).tb.staged = none →
    (s.ch c).limits.lateLimit ≤ min 15 ((s.ch c).eng.consecutiveLate + 1) →
    ∃ t, exec (.peak c) s = .next t ∧ t.StoppedBy c .late ∧ s.OthersKept [c] t ∧
      (t.ch c).eng.consecutiveLate = min 15 ((s.ch c).eng.consecutiveLate + 1) ∧
      (t.ch c).eng.latePeriods = min 65535 ((s.ch c).eng.latePeriods + 1)) ∧
  (∀ s c x, x = s.ch c → s.RunsClear c 1 → x.timebase.mode = .full → x.eng.mark ≠ none → x.tb.staged = none →
    x.waiting.faults = none →
    (x.waiting.limits.getD x.limits).lateLimit ≤ min 15 (x.eng.consecutiveLate + 1) →
    ∃ t, exec (.valley c) s = .next t ∧ ∀ y, y = t.ch c →
      y.state = .faulted ∧ y.tb.gateMode = .off ∧ y.allOff = true ∧ y.eng.slot = .empty ∧ y.eng.mark = none ∧
      y.record.active = some (.own .late) ∧ y.record.seen.getLsbD 5 = true ∧
      y.eng.consecutiveLate = min 15 (x.eng.consecutiveLate + 1) ∧
      y.eng.latePeriods = min 65535 (x.eng.latePeriods + 1) ∧
      ∃ f, y.record.first = some f ∧ f.entry = .own .late ∧ f.period = x.tb.period + 1 ∧ f.udc = s.bus.latest ∧
        f.omega = y.pos.omega ∧ f.appliedIq = x.ref.appliedIq) ∧
  (∀ s c m, m = mateOf c → s.resetHeld = false → s.isCoupled c = true → (s.ch c).sample.driverAsserted = false →
    (∀ g ∈ s.group c, (s.ch g).state = .running ∧ (s.ch g).tb.gateMode = .modulate ∧ (s.ch g).record.entries = [] ∧
      0 < (s.ch g).faults.mask) →
    ∃ t, exec (.gateDriverLineChange c true 2) s = .next t ∧ s.OthersKept (s.group c) t ∧
      (∀ g ∈ s.group c, (t.ch g).state = .faulted ∧ (t.ch g).tb.gateMode = .off ∧ (t.ch g).allOff = true ∧
        (t.ch g).eng.slot = .empty ∧ (t.ch g).queue.records = [] ∧ (t.ch g).record.pending = []) ∧
      (t.ch c).record.active = some (.own .driver) ∧ (t.ch c).record.seen.getLsbD 1 = true ∧
      (t.ch m).record.active = some (.partner .driver .gatesOff .held) ∧ (t.ch m).record.seen.getLsbD 12 = true ∧
      (s.RoomFor 4 → s.Sends t
        [[1, BitVec.ofNat 8 c.val, 2, 0xFF, 2] ++ le16 (s.ch c).tb.period.toNat,
          [3, BitVec.ofNat 8 c.val, 4, 7] ++ le16 (s.ch c).tb.period.toNat,
          [1, BitVec.ofNat 8 m.val, 13, 2, 2] ++ le16 (s.ch m).tb.period.toNat,
          [3, BitVec.ofNat 8 m.val, 4, 7] ++ le16 (s.ch m).tb.period.toNat]))

/-! ## The loop engine -/

/-- A completion stages the result of a channel that has computed without interruption and whose load point is still
to come (R38, R45, R46). In every other case nothing of the result is written, and the discard is counted unless the
channel was reset. A free engine has nothing to complete. That the clock moves to the moment of the completion is the
model's choice (log 2). -/
def Obligations.EngineCompletionDecides : Prop :=
  (∀ s, s.resetHeld = false → s.engine = none → exec .engineCompletion s = .next s) ∧
  ∀ s k, s.resetHeld = false → s.engine = some k →
    ∃ t, exec .engineCompletion s = .next t ∧
      t = { s with now := max s.now (k.grantedAt + 176), channels := t.channels, engine := t.engine } ∧
      (∀ d, d ≠ k.request.channel →
        t.ch d = { s.ch d with eng := { (s.ch d).eng with slot := (t.ch d).eng.slot } }) ∧
      ∀ x y v, x = s.ch k.request.channel → y = t.ch k.request.channel → v = compute k.request k.intD k.intQ →
        (k.missed = false → k.left = false → k.wasReset = false → y = { x with
          tb := { x.tb with staged := some v.compare }
          loopState :=
            { intD := v.intD, intQ := v.intQ, vd := v.vd, vq := v.vq, clampD := v.clampD, clampQ := v.clampQ,
              lastStaged := v.compare }
          eng := { x.eng with slot := y.eng.slot } }) ∧
        (k.missed = true ∨ k.left = true → k.wasReset = false → y = { x with
          eng := { x.eng with slot := y.eng.slot, discarded := min 65535 (x.eng.discarded + 1) } }) ∧
        (k.wasReset = true → y = { x with eng := { x.eng with slot := y.eng.slot } })

/-- After a completion the engine is granted to a waiting request whose deadline no other undercuts, the lowest channel
on a tie; that request leaves its slot, and the integrators are read. The engine stays free only when none waits
(R44, R45). -/
def Obligations.GrantPicksNearestDeadline : Prop :=
  ∀ s k, s.resetHeld = false → s.engine = some k →
    ∃ t, exec .engineCompletion s = .next t ∧
      (t.engine = none ↔ ∀ c r, (s.ch c).eng.slot ≠ .waiting r) ∧
      ∀ g, t.engine = some g →
        (∃ c, (s.ch c).eng.slot = .waiting g.request) ∧
        (∀ c r, (s.ch c).eng.slot = .waiting r → g.request.deadline ≤ r.deadline ∧
          (g.request.deadline = r.deadline → ∃ d, d ≤ c ∧ (s.ch d).eng.slot = .waiting g.request)) ∧
        (t.ch g.request.channel).eng.slot = .empty ∧ g.grantedAt = t.now ∧
        g.intD = (t.ch g.request.channel).loopState.intD ∧ g.intQ = (t.ch g.request.channel).loopState.intQ ∧
        g.missed = false ∧ g.left = false ∧ g.wasReset = false

/-- Stages 1 to 9 of a computation. Every entry of the sine table is the nearest integer to 32767·sin(2πk/1024) (R21).
Stage 1 reads the sine and the cosine at floor(θ/64) (R22); stages 2 to 7 form the measured currents, the errors and the
unlimited voltages ud and uq, each half-up division, clamp and sum written out (R23 to R28). Stages 8 and 9 (R29, R30,
R31): vd is ud clamped to ±Vmax, Vqmax the integer root of Vmax² − vd², vq is uq clamped to ±Vqmax, each flag tells
whether its voltage was limited, and vd² + vq² ≤ Vmax²; the integrator of an axis keeps the value read at the grant where
the axis is clamped and its error pushes further into the clamp, and takes the candidate in every other case; it stays
within ±2,147,418,112. -/
def Obligations.VoltagesAndIntegratorsLimited : Prop :=
  (∀ k, k < 1024 → IsSine k (sine k)) ∧
  ∀ (r : EngineRequest) (intD intQ s c : Int) (vmax : Nat) (v : LoopResult),
    s = sine (r.theta / 64) → c = sine ((r.theta / 64 + 256) % 1024) → vmax = max r.udc 64 * r.loop.mlim / 65536 →
    v = compute r intD intQ →
    ∃ (ed eq ud uq : Int) (vqmax : Nat), r.FormsVoltages intD intQ s c ed eq ud uq ∧
      v.vd = max (-(vmax : Int)) (min vmax ud) ∧ (v.clampD = true ↔ vmax < ud.natAbs) ∧
      (vqmax : Int) ^ 2 ≤ (vmax : Int) ^ 2 - v.vd ^ 2 ∧ (vmax : Int) ^ 2 - v.vd ^ 2 < ((vqmax : Int) + 1) ^ 2 ∧
      v.vq = max (-(vqmax : Int)) (min vqmax uq) ∧ (v.clampQ = true ↔ vqmax < uq.natAbs) ∧
      v.vd ^ 2 + v.vq ^ 2 ≤ (vmax : Int) ^ 2 ∧
      IntegratorRule vmax ud ed intD (r.loop.kiD * ed) v.intD ∧
      IntegratorRule vqmax uq eq intQ (r.loop.kiQ * eq) v.intQ ∧
      (intD.natAbs ≤ 2147418112 → v.intD.natAbs ≤ 2147418112) ∧
      (intQ.natAbs ≤ 2147418112 → v.intQ.natAbs ≤ 2147418112)

/-- Stages 10 to 12 of a computation. The limited voltages return to the stationary frame with the sine and cosine of
stage 1, and the three phase voltages are formed of them and centred, each half-up division written out (R32, R33, R34).
Stage 12 of each phase (R35, R36, R37): the compare value is floor(N/2) and the quotient of (2·v·N + Udc_eff) by
(2·Udc_eff), rounded down, with the dead-time compensation by the sign and the band of that phase's current, clamped to
[Cmin, N − Cmin], an interval that holds floor(N/2). -/
def Obligations.DutyStaysInBounds : Prop :=
  ∀ (r : EngineRequest) (intD intQ s c : Int) res, 2 * r.cmin ≤ r.n → res = compute r intD intQ →
    s = sine (r.theta / 64) → c = sine ((r.theta / 64 + 256) % 1024) →
    (r.cmin ≤ r.n / 2 ∧ r.n / 2 ≤ r.n - r.cmin) ∧
    ∃ va vb vc : Int, CentredVoltages s c res.vd res.vq va vb vc ∧
      ∀ (x u : Nat) (voltage current q change : Int),
        (x, voltage, current) ∈
          [(res.compare.a, va, r.ia), (res.compare.b, vb, r.ib), (res.compare.c, vc, r.ic)] →
        u = max r.udc 64 → 2 * u * q ≤ 2 * voltage * r.n + u → 2 * voltage * r.n + u < 2 * u * (q + 1) →
        ((r.db : Int) ≤ current → 0 < current → change = r.tdc) →
        (current ≤ -(r.db : Int) → current < 0 → change = -(r.tdc : Int)) →
        (¬ ((r.db : Int) ≤ current ∧ 0 < current) → ¬ (current ≤ -(r.db : Int) ∧ current < 0) → change = 0) →
        (x : Int) = max (r.cmin : Int) (min ((r.n : Int) - r.cmin) ((r.n / 2 : Nat) + q + change)) ∧
        r.cmin ≤ x ∧ x ≤ r.n - r.cmin

/-! ## The encoder -/

/-- The quadrature decoder (R13): along the cycle 00, 01, 11, 10 a step is forward, against it backward; the count
moves by the direction in force; an equal pair changes nothing, and the first pair after a reset is only kept (R18). That
the clock stands still is the model's choice (log 54). -/
def Obligations.EncoderStepCounts : Prop :=
  ∀ s c a b x, x = s.ch c → s.resetHeld = false →
    (x.pos.tracks = none →
      exec (.encoderStep c a b) s = .next (s.setCh c { x with pos := { x.pos with tracks := some (a, b) } })) ∧
    (x.pos.tracks = some (a, b) → exec (.encoderStep c a b) s = .next s) ∧
    (∀ old, x.pos.tracks = some old →
      ((old, (a, b)) ∈ [((false, false), (false, true)), ((false, true), (true, true)), ((true, true), (true, false)),
          ((true, false), (false, false))] →
        exec (.encoderStep c a b) s = .next (s.setCh c { x with pos := { x.pos with
          tracks := some (a, b)
          count := if x.encoder.inverted then x.pos.count - 1 else x.pos.count + 1 } })) ∧
      (((a, b), old) ∈ [((false, false), (false, true)), ((false, true), (true, true)), ((true, true), (true, false)),
          ((true, false), (false, false))] →
        exec (.encoderStep c a b) s = .next (s.setCh c { x with pos := { x.pos with
          tracks := some (a, b)
          count := if x.encoder.inverted then x.pos.count + 1 else x.pos.count - 1 } })))

/-- An illegal transition leaves the count and raises the illegal-transition count; it raises ENCODER on a configured
channel, and on an unconfigured one nothing (R14). A running channel that nothing shields takes the reaction chosen in
the FAULTS block. The pair of samples that differs in both tracks is the same event (log 16). Where the record holds an
active source of priority number 0 or 1, ENCODER waits pending behind its equals (R135); an active source of a greater
number is preempted: it moves to the head of the pending list, ENCODER becomes active and its reaction is commanded, and
no event tells of the move (R136, R137). The first-fault record stays (R143). That the clock stands still, and a brake
so commanded is timed from there, is the model's choice (log 54). -/
def Obligations.IllegalTransitionCounted : Prop :=
  (∀ s c x a, x = s.ch c → s.resetHeld = false → s.isCoupled c = false → x.state ≠ .unconfigured → x.record.Sound →
    x.record.active = some a → (∀ e ∈ x.record.entries, e ≠ .own .encoder ∧ e.endMode x.faults = .held) →
    1 < x.faults.mask →
    ∃ t, exec (.illegalTransition c) s = .next t ∧
      (a.priority ≤ 1 → (t.ch c).state = x.state ∧ (t.ch c).record = { x.record with
          pending := x.record.pending.filter (fun e => decide (e.priority ≤ 1)) ++ [.own .encoder] ++
            x.record.pending.filter (fun e => decide (1 < e.priority))
          seen := x.record.seen ||| 0x10 } ∧
        (s.RoomFor 1 → s.Sends t [[1, BitVec.ofNat 8 c.val, 5, 0xFF, 1] ++ le16 x.tb.period.toNat])) ∧
      (1 < a.priority → (t.ch c).record = { x.record with
          active := some (.own .encoder)
          pending := a :: x.record.pending
          seen := x.record.seen ||| 0x10 } ∧
        (x.state = .faulted → (t.ch c).state = .faulted ∧
          (s.RoomFor 1 → s.Sends t [[1, BitVec.ofNat 8 c.val, 5, 0xFF, 2] ++ le16 x.tb.period.toNat])) ∧
        (x.state = .stopping .rampFault →
          (t.ch c).state = if x.faults.encoderBrakes then .stopping .brake else .faulted))) ∧
  ∀ s c x, x = s.ch c → s.resetHeld = false →
    (∀ a b, x.pos.tracks = some (a, b) → exec (.encoderStep c (!a) (!b)) s = exec (.illegalTransition c) s) ∧
    ∃ t, exec (.illegalTransition c) s = .next t ∧
      (t.ch c).pos = { x.pos with
        illegal := min 65535 (x.pos.illegal + 1)
        tracks := x.pos.tracks.map (fun p => (!p.1, !p.2)) } ∧
      (x.state = .unconfigured → s.isCoupled c = false → x.record.entries = [] → t = s.setCh c { x with pos := (t.ch c).pos }) ∧
      (x.state ≠ .unconfigured → (t.ch c).record.seen.getLsbD 4 = true) ∧
      (s.RunsClear c 1 → x.faults.encoderBrakes = false → t.StoppedBy c .encoder) ∧
      (s.RunsClear c 1 → x.faults.encoderBrakes = true →
        (t.ch c).state = .stopping .brake ∧ (t.ch c).tb.gateMode = .lowOn ∧
        (t.ch c).record.active = some (.own .encoder) ∧ (t.ch c).op.inProgress = some .brake ∧
        (t.ch c).timers.brake = some (s.now + x.limits.brakeTime * 80000) ∧ (t.ch c).stop.slowCount = 0 ∧
        (t.ch c).eng.slot = .empty)

/-! ## The controller's timers -/

/-- The charge timer's expiry takes the channel, or the coupled pair, from CHARGING to RUNNING with half duty and
CHARGE completed (R5, R60, R124); the park timer's expiry takes it from RUNNING to PARKED with the gates off and the
engine left (R61, R62, R124). The brake timer's expiry ends a short brake with the reason TIME, and its reaction
completes: FAULTED, or DISABLED where no entry is left (R67, R69). The holdoff timer's expiry resumes a suspended
calibration, from nothing where it has waited longer than T_stale (R74). That an expiry falls at the moment the timer
holds, and that an expiry of a stopped timer changes nothing, is the model's choice (log 34; the clock, log 2). -/
def Obligations.ControllerTimersExpire : Prop :=
  (∀ s c, s.resetHeld = false →
    ((s.ch c).timers.charge = none → exec (.chargeTimerExpiry c) s = .next s) ∧
    ((s.ch c).timers.park = none → exec (.parkTimerExpiry c) s = .next s) ∧
    (∀ moment, (s.ch c).timers.charge = some moment →
      (∀ g ∈ s.group c, (s.ch g).state = .charging ∧ (s.ch g).tb.gateMode = .lowOn ∧
        (s.ch g).op.inProgress = some .charge) →
      ∃ t, exec (.chargeTimerExpiry c) s = .next t ∧ t.now = max s.now moment ∧ s.OthersKept (s.group c) t ∧
        ∀ g ∈ s.group c, ∀ x y, x = s.ch g → y = t.ch g →
          y.state = .running ∧ y.tb.gateMode = .modulate ∧
          y.tb.compare = { a := x.timebase.n / 2, b := x.timebase.n / 2, c := x.timebase.n / 2 } ∧
          y.tb.staged = none ∧ y.timers.charge = none ∧ y.timers.park = x.timers.park ∧
          y.op = { inProgress := none, done := true, last := some (.charge, .completed) } ∧ y.queue = x.queue ∧
          y.ref = x.ref ∧ y.record = x.record) ∧
    (∀ moment, (s.ch c).timers.park = some moment →
      (∀ g ∈ s.group c, (s.ch g).state = .running ∧ (s.ch g).tb.gateMode = .modulate) →
      ∃ t, exec (.parkTimerExpiry c) s = .next t ∧ t.now = max s.now moment ∧ s.OthersKept (s.group c) t ∧
        ∀ g ∈ s.group c, ∀ x y, x = s.ch g → y = t.ch g →
          y.state = .parked ∧ y.tb.gateMode = .off ∧ y.allOff = true ∧ y.eng.slot = .empty ∧ y.eng.mark = none ∧
          y.timers.park = none ∧ y.op = x.op ∧ y.queue = x.queue ∧ y.pos = x.pos ∧ y.record = x.record)) ∧
  (∀ s c x, x = s.ch c → s.resetHeld = false →
    (x.timers.brake = none → exec (.brakeTimerExpiry c) s = .next s) ∧
    (x.timers.holdoff = none → exec (.holdoffTimerExpiry c) s = .next s) ∧
    (∀ moment, x.timers.brake = some moment → x.state = .stopping .brake → s.isCoupled c = false →
      x.op.inProgress = some .brake → (∀ e ∈ x.record.entries, e.endMode x.faults = .held) →
      ∃ t, exec (.brakeTimerExpiry c) s = .next t ∧ t.now = max s.now moment ∧ s.OthersKept [c] t ∧
        (t.ch c).state = (if x.record.entries = [] then .disabled else .faulted) ∧ (t.ch c).tb.gateMode = .off ∧
        (t.ch c).stop.brakeEnd = .time ∧ (t.ch c).timers.brake = none ∧ (t.ch c).queue.records = [] ∧
        (t.ch c).op = { inProgress := none, done := true, last := some (.brake, .completed) } ∧
        (t.ch c).record = x.record) ∧
    (∀ moment, x.timers.holdoff = some moment → x.state = .disabled → x.tb.gateMode = .off →
      ∃ t, exec (.holdoffTimerExpiry c) s = .next t ∧ t.now = max s.now moment ∧ s.OthersKept [c] t ∧
        ∀ stale, (stale = true ↔ x.idle.tStale * 8000000 < t.now - x.cal.suspendedAt) →
          t.ch c = { x with
            state := .calibrating
            timers := { x.timers with holdoff := none }
            op := { x.op with inProgress := some .calibrate, done := false }
            cal := { x.cal with
              condition := .running
              sumA := if stale then 0 else x.cal.sumA
              sumB := if stale then 0 else x.cal.sumB
              count := if stale then 0 else x.cal.count } }))

/-! ## The bus monitor -/

/-- A sample of the DC link (R153): eight times the reading becomes the latest sample, and while a profile is held the
chopper (R158), the over-voltage run (R159) and the under-voltage condition with its debounce (R160, R161) are
judged. An opening run raises DC_OVER on every configured channel; a condition that sets, where that sample opens no
run, raises DC_UNDER on every channel that charges, runs or is parked with an empty fault record. An AUTO DC_OVER
that stands alone on a FAULTED channel leaves at a sample below U_on, an AUTO DC_UNDER at the sample that clears the
condition, and the channel passes to DISABLED; one that still ramps for DC_UNDER loses its entry and ramps on (R140,
R147): said of a channel that is not coupled and has nothing pending, and for DC_UNDER of a sample that opens no
over-voltage run. That the clock moves to the moment of the sample is the model's choice (log 2). -/
def Obligations.BusSampleJudged : Prop :=
  ∀ s raw, s.resetHeld = false →
    (s.bus.profile = none → exec (.dcLinkSample raw) s = .next
      { s with
        now := max s.now (s.bus.sampledAt + 800)
        bus := { s.bus with latest := 8 * raw.toNat, sampledAt := max s.now (s.bus.sampledAt + 800) } }) ∧
    ∀ p, s.bus.profile = some p → p.uOff < p.uOn → p.uOn < p.uOv →
      ∃ t, exec (.dcLinkSample raw) s = .next t ∧ t.now = max s.now (s.bus.sampledAt + 800) ∧
        ∀ v uUv : Nat, v = 8 * raw.toNat → uUv = p.udcNom * (40 + 3 * p.uvIndex) / 100 →
        ∀ opens counts flips : Bool, (opens = true ↔ p.uOv ≤ v ∧ s.bus.ovOpen = false) →
          (counts = true ↔ if s.bus.uvSet then uUv < v else v < uUv) →
          (flips = true ↔ counts = true ∧ p.tUv ≤ s.bus.uvDebounce + 1) →
          t.bus = { s.bus with
            latest := v
            sampledAt := t.now
            chopperOn := decide (p.uOn ≤ v) || (s.bus.chopperOn && decide (p.uOff < v))
            turnOns := if p.uOn ≤ v ∧ s.bus.chopperOn = false then min 65535 (s.bus.turnOns + 1) else s.bus.turnOns
            ovOpen := opens || (s.bus.ovOpen && decide (p.uOn ≤ v))
            ovCount := if opens then min 65535 (s.bus.ovCount + 1) else s.bus.ovCount
            uvSet := s.bus.uvSet != flips
            uvDebounce := if counts && !flips then s.bus.uvDebounce + 1 else 0
            uvCount := if flips && !s.bus.uvSet then min 65535 (s.bus.uvCount + 1) else s.bus.uvCount } ∧
          (opens = true → ∀ c, (s.ch c).state ≠ .unconfigured → (t.ch c).record.seen.getLsbD 3 = true) ∧
          (flips = true → s.bus.uvSet = false → opens = false → ∀ c, (s.ch c).state.isReference = true →
            (s.ch c).record.entries = [] → (t.ch c).record.seen.getLsbD 6 = true) ∧
          ∀ c x y, x = s.ch c → y = t.ch c → s.isCoupled c = false → x.record.pending = [] →
            (v < p.uOn → x.state = .faulted → x.record.active = some (.own .dcOver) → x.faults.dcOverEnd = .auto →
              y.state = .disabled ∧ y.tb.gateMode = .off ∧ y.record = { x.record with active := none }) ∧
            (flips = true → s.bus.uvSet = true → opens = false → x.record.active = some (.own .dcUnder) →
              x.faults.dcUnderEnd = .auto → x.state = .faulted ∨ x.state = .stopping .rampFault →
              y.record = { x.record with active := none } ∧
              y.state = (if x.state = .faulted then .disabled else x.state))

/-- A mains failure is seen after twenty agreeing samples (R162) and begins a ride-through in NORMAL while a profile is
held (R164); the restored line ends it, with the outcome of the state it finds (R165). The RIDE_BEGIN and RIDE_END
events carry the fields of 12.6.7 (R194). Model's choices: the milliseconds of RIDE_END are rounded down (log 13) and
wrap at 2^32 (log 53), fewer than twenty agreeing samples given in one command change nothing (log 15), and the change
falls at the moment at which the clock stands, from which T_ride and the duration count (log 54). -/
def Obligations.MainsFailureRides : Prop :=
  ∀ s agreeing, s.resetHeld = false →
    (∀ level, agreeing < 20 ∨ s.bus.mainsAsserted = level → exec (.mainsFailChange level agreeing) s = .next s) ∧
    (20 ≤ agreeing → s.bus.mainsAsserted = false → s.bus.ride = .normal →
      (s.bus.profile = none →
        exec (.mainsFailChange true agreeing) s = .next { s with bus := { s.bus with mainsAsserted := true } }) ∧
      ∀ p, s.bus.profile = some p → ∃ t, exec (.mainsFailChange true agreeing) s = .next t ∧
        t = { s with
          free := t.free
          report := t.report
          bus := { s.bus with
            mainsAsserted := true
            ride := .rideThrough
            rideTimer := some (s.now + p.tRide * 80000)
            rideEnteredAt := s.now
            ridesBegun := min 65535 (s.bus.ridesBegun + 1) } } ∧
        (s.RoomFor 1 → s.Sends t
          [[6, match p.support with
            | none => 0xFF
            | some c => BitVec.ofNat 8 c.val] ++ le16 s.bus.latest])) ∧
    (20 ≤ agreeing → s.bus.mainsAsserted = true → s.bus.ride = .normal →
      exec (.mainsFailChange false agreeing) s = .next { s with bus := { s.bus with mainsAsserted := false } }) ∧
    (20 ≤ agreeing → s.bus.mainsAsserted = true → s.bus.ride ≠ .normal →
      ∃ t, exec (.mainsFailChange false agreeing) s = .next t ∧
        t = { s with
          free := t.free
          report := t.report
          bus := { s.bus with mainsAsserted := false, ride := .normal, rideTimer := none } } ∧
        (s.RoomFor 1 → s.Sends t
          [[7, 0xFF, if s.bus.ride = .expired then 1 else 0] ++ le32 ((s.now - s.bus.rideEnteredAt) / 80000)]))

/-- Two timers of the whole part raise a source on every configured channel: the ride timer POWER_LOSS (R166), which
turns the gates of a running channel off that nothing shields, and the link watchdog LINK_LOSS (R185), which starts a
ramp stop on such a channel. That an expiry falls at the moment the timer holds, and that an expiry of a stopped timer
changes nothing, is the model's choice (log 34; the clock, log 2). Where the source is at or above the mask threshold of
a channel that is not coupled and whose entries are all HELD, it is a warning (R134): its code enters the seen set and
all else of the channel is as before, and where its record is empty and no other channel is configured the one thing
sent is its FAULT event with the disposition WARNING. -/
def Obligations.PartWideTimersExpire : Prop :=
  ∀ s, s.resetHeld = false →
    (s.bus.ride ≠ .rideThrough ∨ s.bus.rideTimer = none → exec .rideTimerExpiry s = .next s) ∧
    ((∀ moment, s.link.watchdog ≠ .running moment) → exec .linkWatchdogExpiry s = .next s) ∧
    (∀ moment, s.bus.ride = .rideThrough → s.bus.rideTimer = some moment →
      ∃ t, exec .rideTimerExpiry s = .next t ∧ t.now = max s.now moment ∧
        t.bus = { s.bus with
          ride := .expired
          rideTimer := none
          ridesExpired := min 65535 (s.bus.ridesExpired + 1) } ∧
        ∀ c, ((s.ch c).state = .unconfigured → s.isCoupled c = false → t.ch c = s.ch c) ∧
          ((s.ch c).state ≠ .unconfigured → (t.ch c).record.seen.getLsbD 8 = true) ∧
          (s.RunsClear c 2 → t.StoppedBy c .powerLoss) ∧
          ((s.ch c).state ≠ .unconfigured → s.isCoupled c = false → (s.ch c).faults.mask ≤ 2 →
            (∀ e ∈ (s.ch c).record.entries, e.endMode (s.ch c).faults = .held) →
            t.ch c = { s.ch c with record := { (s.ch c).record with seen := (s.ch c).record.seen ||| 0x100 } } ∧
            ((∀ d, d ≠ c → (s.ch d).state = .unconfigured) → (s.ch c).record.entries = [] → s.RoomFor 1 →
              s.Sends t [[1, BitVec.ofNat 8 c.val, 9, 0xFF, 0] ++ le16 (s.ch c).tb.period.toNat]))) ∧
    (∀ moment, s.link.watchdog = .running moment →
      ∃ t, exec .linkWatchdogExpiry s = .next t ∧ t.now = max s.now moment ∧
        t.link = { s.link with
          watchdog := .expired
          counts := { s.link.counts with watchdogExpiries := min 65535 (s.link.counts.watchdogExpiries + 1) } } ∧
        ∀ c, ((s.ch c).state = .unconfigured → s.isCoupled c = false → t.ch c = s.ch c) ∧
          ((s.ch c).state ≠ .unconfigured → (t.ch c).record.seen.getLsbD 10 = true) ∧
          (s.RunsClear c 3 →
            (t.ch c).state = .stopping .rampFault ∧ (t.ch c).record.active = some (.own .linkLoss) ∧
            (t.ch c).op.inProgress = some .faultStop ∧ (t.ch c).stop.rd = (s.ch c).ref.appliedId ∧
            (t.ch c).stop.rq = (s.ch c).ref.appliedIq ∧ (t.ch c).tb.gateMode = .modulate ∧
            (t.ch c).eng = (s.ch c).eng) ∧
          ((s.ch c).state ≠ .unconfigured → s.isCoupled c = false → (s.ch c).faults.mask ≤ 3 →
            (∀ e ∈ (s.ch c).record.entries, e.endMode (s.ch c).faults = .held) →
            t.ch c = { s.ch c with record := { (s.ch c).record with seen := (s.ch c).record.seen ||| 0x400 } } ∧
            ((∀ d, d ≠ c → (s.ch d).state = .unconfigured) → (s.ch c).record.entries = [] → s.RoomFor 1 →
              s.Sends t [[1, BitVec.ofNat 8 c.val, 11, 0xFF, 0] ++ le16 (s.ch c).tb.period.toNat])))

/-! ## The machine inputs -/

/-- A sample event compares every input with its filtered level: an equal sample clears the filter count, a differing
one raises it, and the F-th in a row is a filtered change (R171). The event does on the channels, the reports and the
rest of the part what the INPUT_FILTERED_CHANGEs of the inputs that change do, at its moment: nothing where none
changes, and for one alone what its own command does (R171, R174 to R176). That the clock moves to the moment of the
sample event is the model's choice (log 2), and so is that several changes act in ascending input number (log 44). -/
def Obligations.InputSampleFilters : Prop :=
  (∀ s levels, s.resetHeld = false →
    ∃ t, exec (.inputSampleEvent levels) s = .next t ∧ t.now = max s.now (s.inputsSampledAt + 80) ∧
      t.inputsSampledAt = t.now ∧ t.bus = s.bus ∧ t.pairs = s.pairs ∧ t.link = s.link ∧ t.commands = s.commands ∧
      ∀ i x y, x = s.input i → y = t.input i →
        (levels.getLsbD i.val = x.high → y = { x with filterCount := 0 }) ∧
        (levels.getLsbD i.val ≠ x.high → x.filterCount + 1 < x.filterLength →
          y = { x with filterCount := x.filterCount + 1 }) ∧
        (levels.getLsbD i.val ≠ x.high → x.filterLength ≤ x.filterCount + 1 →
          y = { x with high := !x.high, filterCount := 0, changes := min 65535 (x.changes + 1) })) ∧
  ∀ s levels changing n, s.resetHeld = false →
    changing = ([0, 1, 2, 3, 4, 5, 6, 7] : List InputId).filter (fun i =>
      levels.getLsbD i.val != (s.input i).high && decide ((s.input i).filterLength ≤ (s.input i).filterCount + 1)) →
    n = max s.now (s.inputsSampledAt + 80) →
    ∃ t u, exec (.inputSampleEvent levels) s = .next t ∧
      execAll (changing.map (fun i => .inputFilteredChange i (levels.getLsbD i.val)))
        { s with now := n, inputsSampledAt := n } = .next u ∧
      t = { u with inputs := t.inputs }

/-- A filtered change of an input (R171): a level already held is none. The assertion of an STO input raises STO on
every configured channel of its set that no other input held (R174), and stops a running one; the assertion of an
input of another function acts on no channel, and a release of any input acts on no channel that holds no fault. An
assertion or a release of any function whose edge is asked for sends one INPUT event with the fields of 12.6.7, and one
whose edge is not asked for sends none (R176): said of what is sent while no other kind of event is enabled. That the
clock stands still is the model's choice (log 54). -/
def Obligations.InputChangeActs : Prop :=
  ∀ s i high x, x = s.input i → s.resetHeld = false →
    (x.high = high → exec (.inputFilteredChange i high) s = .next s) ∧
    (x.high ≠ high → ∃ t, exec (.inputFilteredChange i high) s = .next t ∧ t.now = s.now ∧ t.bus = s.bus ∧
      t.pairs = s.pairs ∧ t.link = s.link ∧
      t.inputs = s.inputs.set i { x with high := high, filterCount := 0, changes := min 65535 (x.changes + 1) } ∧
      (high ≠ x.activeLow → ∀ channels, x.function = .sto channels → ∀ c, channels.getLsbD c.val = true →
        (∀ j, (s.input j).active = true → (s.input j).stoFor c = false) →
        ((s.ch c).state ≠ .unconfigured → (t.ch c).record.seen.getLsbD 2 = true) ∧
        (s.RunsClear c 0 → t.StoppedBy c .sto)) ∧
      (high ≠ x.activeLow → (∀ channels, x.function ≠ .sto channels) → t.channels = s.channels) ∧
      (high = x.activeLow → ∀ c, (∀ g ∈ s.group c, (s.ch g).record.entries = []) → t.ch c = s.ch c) ∧
      (s.report.Sound → s.report.fill + 1 ≤ 32 → s.report.enables = 0x10 → ∀ asked : Bool,
        (asked = true ↔ x.notice = .both ∨ (high ≠ x.activeLow ∧ x.notice = .assert) ∨
          (high = x.activeLow ∧ x.notice = .release)) →
        ∃ actives, (∀ j, actives.getLsbD j.val = (t.input j).active) ∧
          s.Sends t (if asked then
            [[5, 0xFF, BitVec.ofNat 8 i.val, if high then 1 else 0, if high ≠ x.activeLow then 1 else 0, actives] ++
              le16 (min 65535 (x.changes + 1))] else [])))

/-- The release of the last STO input of a channel ends the STO condition: the AUTO entry leaves, and a channel that
stood FAULTED for it alone passes to DISABLED with its gates off (R140, R147, R175). -/
def Obligations.StoReleaseFreesChannel : Prop :=
  ∀ s i high c, s.resetHeld = false → (s.input i).high ≠ high → high = (s.input i).activeLow →
    (∀ j, j ≠ i → (s.input j).active = true → (s.input j).stoFor c = false) → s.isCoupled c = false →
    (s.ch c).state = .faulted → (s.ch c).record.active = some (.own .sto) → (s.ch c).record.pending = [] →
    ∃ t, exec (.inputFilteredChange i high) s = .next t ∧ (t.ch c).state = .disabled ∧
      (t.ch c).record = { (s.ch c).record with active := none, pending := [] } ∧ (t.ch c).tb.gateMode = .off

/-! ## The control link -/

/-- A SETPOINT telegram of one entry (R79, R82 to R85, R183): the entry's channel, apply-at, references and optional
feed-forward are read as 12.6.4 lays them out; a follower's record is counted as refused, a state that takes none drops
it, a record for the period in progress or before it is late, a full queue refuses it, and else it replaces the stream
from its own period on. The entries of a SETPOINT telegram act in their order, each as if it came alone; one that names
a channel above 9 is counted and the next still acts; a payload that does not divide into 1 to 24 whole entries is
malformed and acts on nothing (R183). -/
def Obligations.SetpointsArrive : Prop :=
  (∀ s tag (h a0 a1 q0 q1 d0 d1 : Byte) (v : List Byte) (c : ChannelId) (r : Setpoint) x, s.resetHeld = false →
    h.toNat % 16 = c.val →
    ((h.getLsbD 7 = false ∧ v = [] ∧ r.vff = none) ∨
      (h.getLsbD 7 = true ∧ ∃ v0 v1, v = [v0, v1] ∧
        r.vff = some (max (-32767) (BitVec.ofNat 16 (v0.toNat + 256 * v1.toNat)).toInt))) →
    r.applyAt = BitVec.ofNat 16 (a0.toNat + 256 * a1.toNat) →
    r.iq = max (-32767) (BitVec.ofNat 16 (q0.toNat + 256 * q1.toNat)).toInt →
    r.id = max (-32767) (BitVec.ofNat 16 (d0.toNat + 256 * d1.toNat)).toInt → x = s.ch c →
    ∃ y, exec (.setpoint tag ([h, a0, a1, q0, q1, d0, d1] ++ v)) s =
        .next { s.setCh c { x with queue := y } with link := s.link.afterGood s.now } ∧
      (s.isFollower c = true → y = { x.queue with refusedCoupled := min 65535 (x.queue.refusedCoupled + 1) }) ∧
      (s.isFollower c = false → x.state.takes = false →
        y = { x.queue with dropped := min 65535 (x.queue.dropped + 1) }) ∧
      (s.isFollower c = false → x.state.takes = true → ∀ d earlier, d = (r.applyAt - x.tb.period).toNat →
        earlier = x.queue.records.filter (fun e => decide ((e.applyAt - x.tb.period).toNat < d)) →
        (d = 0 ∨ 32768 ≤ d → y = { x.queue with late := min 65535 (x.queue.late + 1) }) ∧
        (0 < d → d < 32768 → 16 ≤ earlier.length →
          y = { x.queue with refusedFull := min 65535 (x.queue.refusedFull + 1) }) ∧
        (0 < d → d < 32768 → earlier.length < 16 → y = { x.queue with
          records := earlier ++ [r]
          revised := min 65535 (x.queue.revised + (x.queue.records.length - earlier.length)) }))) ∧
  ((∀ s tag payload, s.resetHeld = false → (∀ n, 0 < n → n ≤ 24 → ¬ DividesInto n payload) →
    exec (.setpoint tag payload) s = .next
      { s with link := { s.link.afterGood s.now with
        counts := { (s.link.afterGood s.now).counts with malformed := min 65535 (s.link.counts.malformed + 1) } } }) ∧
  (∀ s tag (h a0 a1 q0 q1 d0 d1 : Byte), s.resetHeld = false → 10 ≤ h.toNat % 16 → h.getLsbD 7 = false →
    exec (.setpoint tag [h, a0, a1, q0, q1, d0, d1]) s = .next
      { s with link := { s.link.afterGood s.now with
        counts := { (s.link.afterGood s.now).counts with badChannel := min 65535 (s.link.counts.badChannel + 1) } } }) ∧
  (∀ s tag first rest t u m n, s.resetHeld = false → DividesInto m first → DividesInto n rest → 0 < m → 0 < n →
    m + n ≤ 24 → exec (.setpoint tag first) s = .next t → exec (.setpoint tag rest) t = .next u →
    ∃ w, exec (.setpoint tag (first ++ rest)) s = .next w ∧ w.channels = u.channels ∧
      w.link.counts.badChannel = u.link.counts.badChannel ∧ w.link.counts.malformed = s.link.counts.malformed))

/-- Any other good telegram is a request (R183): it enters the command queue at the tail while that holds fewer than
four; else BUSY is answered and counted, and where no transmit entry is free the reply is lost and counted (R184,
R187). A kind of CLEAR_FAULTS carries 0xFF and 0xFF with its BUSY (log 19). -/
def Obligations.RequestEntersQueue : Prop :=
  ∀ s kind tag payload, s.resetHeld = false → kind ≠ 0x01 →
    (s.commands.length < 4 → exec (.requestTelegram kind tag payload) s = .next
      { s with link := s.link.afterGood s.now, commands := s.commands ++ [⟨kind, tag, payload⟩] }) ∧
    (4 ≤ s.commands.length → s.report.fill < 32 → exec (.requestTelegram kind tag payload) s = .next
      { s with
        link := { s.link.afterGood s.now with
          counts := { (s.link.afterGood s.now).counts with busy := min 65535 (s.link.counts.busy + 1) } }
        report := s.report.enter s.now
          { cls := .reply, kind := kind + 0x80, tag := tag,
            payload := if kind = 0x26 then [1, 0xFF, 0xFF] else [1], endsReset := false } }) ∧
    (4 ≤ s.commands.length → 32 ≤ s.report.fill → exec (.requestTelegram kind tag payload) s = .next
      { s with link := { s.link.afterGood s.now with
        counts := { (s.link.afterGood s.now).counts with
          busy := min 65535 (s.link.counts.busy + 1)
          lostBusy := min 65535 (s.link.counts.lostBusy + 1) } } })

/-- The four faults that end a telegram (R182): each is counted and leaves the receiver in HUNT, a framing fault in HUNT
too. Model's choices (log 20): a LENGTH_ERROR of 248 or less does nothing, a GAP_ERROR in HUNT does nothing, and a CRC or
length fault given as a row of its own leaves the clock where it stands. A byte is taken according to the receiver's
state: the table of R181, with the CRC of R180 over the covered bytes. A telegram whose CRC matches completes as SETPOINT
or REQUEST_TELEGRAM, one whose CRC does not ends as CRC_ERROR. A byte whose start bit began before the reset ended, nine
and a half bit times before its arrival, is not taken, good or bad (R182). The moments are on the model's clock (log
2). -/
def Obligations.LinkErrorsAndBytesMoveReceiver : Prop :=
  (∀ s, s.resetHeld = false →
    exec .crcError s = .next { s with link := { s.link with
      receiver := .hunt
      counts := { s.link.counts with crc := min 65535 (s.link.counts.crc + 1) } } } ∧
    (∀ length : Byte, 248 < length.toNat → exec (.lengthError length) s = .next { s with link := { s.link with
      receiver := .hunt
      counts := { s.link.counts with length := min 65535 (s.link.counts.length + 1) } } }) ∧
    (∀ length : Byte, length.toNat ≤ 248 → exec (.lengthError length) s = .next s) ∧
    (∀ moment, s.link.receiver ≠ .hunt → s.link.lastByteAt = some moment → exec .gapError s = .next { s with
      now := max s.now (moment + 160)
      link := { s.link with
        receiver := .hunt
        counts := { s.link.counts with gap := min 65535 (s.link.counts.gap + 1) } } }) ∧
    (s.link.receiver = .hunt → exec .gapError s = .next s)) ∧
  (∀ s (b : Byte) n u, s.resetHeld = false → s.ByteEndsAt n →
    u = { s with now := n, link := { s.link with lastByteAt := some n } } →
    (n < s.resetAt + 19 → exec (.byteArrival b) s = .next u ∧ exec .framingError s = .next u) ∧
    (s.resetAt + 19 ≤ n →
      exec .framingError s = .next { u with link := { u.link with
        receiver := .hunt
        counts := { s.link.counts with framing := min 65535 (s.link.counts.framing + 1) } } } ∧
      (∀ next crc,
        (s.link.receiver = .hunt ∧ b = 0xA5 ∧ next = .sync2 ∧ crc = s.link.crc) ∨
        (s.link.receiver = .hunt ∧ b ≠ 0xA5 ∧ next = .hunt ∧ crc = s.link.crc) ∨
        (s.link.receiver = .sync2 ∧ b = 0x3C ∧ next = .headerLength ∧ crc = 0xFFFF) ∨
        (s.link.receiver = .sync2 ∧ b = 0xA5 ∧ next = .sync2 ∧ crc = s.link.crc) ∨
        (s.link.receiver = .sync2 ∧ b ≠ 0x3C ∧ b ≠ 0xA5 ∧ next = .hunt ∧ crc = s.link.crc) ∨
        (s.link.receiver = .headerLength ∧ b.toNat ≤ 248 ∧ next = .headerKind b.toNat ∧ crc = crcByte s.link.crc b) ∨
        (∃ l, s.link.receiver = .headerKind l ∧ next = .headerTag l b ∧ crc = crcByte s.link.crc b) ∨
        (∃ l k, s.link.receiver = .headerTag l k ∧ 0 < l ∧ next = .body l k b [] ∧ crc = crcByte s.link.crc b) ∨
        (∃ k, s.link.receiver = .headerTag 0 k ∧ next = .check k b [] ∧ crc = crcByte s.link.crc b) ∨
        (∃ l k g p, s.link.receiver = .body l k g p ∧ p.length + 1 < l ∧ next = .body l k g (p ++ [b]) ∧
          crc = crcByte s.link.crc b) ∨
        (∃ l k g p, s.link.receiver = .body l k g p ∧ l ≤ p.length + 1 ∧ next = .check k g (p ++ [b]) ∧
          crc = crcByte s.link.crc b) ∨
        (∃ k g p, s.link.receiver = .check k g p ∧ next = .checkHigh k g p b ∧ crc = s.link.crc) →
        exec (.byteArrival b) s = .next { u with link := { u.link with receiver := next, crc := crc } }) ∧
      (s.link.receiver = .headerLength → 248 < b.toNat → exec (.byteArrival b) s = exec (.lengthError b) u) ∧
      (∀ k g p low, s.link.receiver = .checkHigh k g p low →
        (s.link.crc = b ++ low →
          exec (.byteArrival b) s = exec (if k = 0x01 then .setpoint g p else .requestTelegram k g p) u) ∧
        (s.link.crc ≠ b ++ low → exec (.byteArrival b) s = exec .crcError u))))

/-- The bytes of a frame (R179, R180), arriving one after the other at a receiver in HUNT, the first begun after the
reset, are received as the telegram they carry: the part does what the SETPOINT or REQUEST_TELEGRAM of that kind, tag and
payload does, 19 cycles a byte later, for the next start bit may begin at once in the middle of a stop bit. That bytes
given with the clock at rest arrive at the earliest moments R179 allows is the model's choice, as its clock is
(log 2). -/
def Obligations.FrameIsReceived : Prop :=
  ∀ s (kind tag : Byte) (payload : List Byte) m n, s.resetHeld = false → s.link.receiver = .hunt →
    payload.length ≤ 248 → s.ByteEndsAt m → s.resetAt + 19 ≤ m → n = m + 19 * (payload.length + 6) →
    execAll ((frame kind tag payload).map Instr.byteArrival) s =
      exec (if kind = 0x01 then .setpoint tag payload else .requestTelegram kind tag payload)
        { s with
          now := n
          link := { s.link with
            lastByteAt := some n
            crc := crcOf (BitVec.ofNat 8 payload.length :: kind :: tag :: payload) } }

/-- The last byte of a telegram leaves, its entry is freed, and the next telegram begins on the line: the oldest of the
first class present among REPLY, EVENT and TELEMETRY, framed with its CRC (R179, R186). On an idle line nothing
happens. That the clock moves to the moment of the last byte's end is the model's choice (log 2), and so is that the
next telegram is chosen before a request that waited behind the full queue may be executed (log 55). -/
def Obligations.TransmitEndAdvances : Prop :=
  ∀ s, s.resetHeld = false →
    (s.report.sending = none → exec .transmitEnd s = .next s) ∧
    ∀ w, s.report.sending = some w → w.telegram.endsReset = false ∨ s.resetAwaited = false →
      ∃ t, exec .transmitEnd s = .next t ∧ t.now = max s.now (w.startedAt + 20 * w.bytes.length) ∧
        t = { s with now := t.now, report := t.report } ∧ t.report.eventsLost = s.report.eventsLost ∧
        t.report.enables = s.report.enables ∧
        (s.report.waiting = [] → t.report.sending = none ∧ t.report.waiting = []) ∧
        (s.report.waiting ≠ [] → ∃ u cls, t.report.sending =
            some { telegram := u, bytes := frame u.kind u.tag u.payload, startedAt := t.now } ∧
          s.report.waiting.find? (fun x => x.cls == cls) = some u ∧ t.report.waiting = s.report.waiting.erase u ∧
          (cls = .event → ∀ x ∈ s.report.waiting, x.cls ≠ .reply) ∧
          (cls = .telemetry → ∀ x ∈ s.report.waiting, x.cls = .telemetry))

/-! ## The dispatcher -/

/-- A request that the dispatcher may execute is executed: it leaves the command queue, and exactly one reply to it
enters the transmit queue, ahead of whatever events its effect requests (R184, R189). Model's choices (log 4): a request
given as a command while it may not be executed waits and changes nothing, and with an empty command queue one is
executed that the queue does not hold. -/
def Obligations.ServedRequestIsAnswered : Prop :=
  ∀ i r s, requestOf i = some r →
    (s.CanServe r → s.report.Sound → ∃ t status content events, exec i s = .next t ∧
      t.commands = s.commandsAfter r ∧ (∀ e ∈ events, e.cls = TelegramClass.event) ∧
      t.report.telegrams = s.report.telegrams ++
        { cls := .reply, kind := r.kind + 0x80, tag := r.tag, payload := status :: content,
          endsReset := decide (r.kind = 0x39 ∧ status = 0) } :: events) ∧
    (¬ s.CanServe r → exec i s = .next s)

/-- A request that fails a check of R189 is answered with the status of that check and changes nothing else: BAD_KIND
for a kind that is none of 12.6.2, whatever its payload; BAD_LENGTH for a payload of the wrong length; BAD_CHANNEL for a
channel above 9 or a pair above 4. A refused CLEAR_FAULTS carries 0xFF and 0xFF (R146; log 19). A LOAD_PROFILE is of the
wrong length where it lacks its channel and kind bytes or whole blocks do not tile the rest exactly (R190); one of the
right length has its channel checked. A CONFIGURE_INPUTS is of the wrong length where it is not 1 to 8 records of 7 bytes
(R177). -/
def Obligations.RefusedRequestChangesNothing : Prop :=
  ∀ i r s, requestOf i = some r → s.CanServe r →
    (r.kind ∉ requestKinds → exec i s = .next (s.repliedTo r .badKind [])) ∧
    (∀ n, fixedLength r.kind = some n → r.payload.length ≠ n →
      exec i s = .next (s.repliedTo r .badLength (if r.kind = 0x26 then [0xFF, 0xFF] else []))) ∧
    (∀ n k, fixedLength r.kind = some n → r.payload.length = n → namedRange r.kind = some k →
      k ≤ (r.payload.getD 0 0).toNat →
      exec i s = .next (s.repliedTo r .badChannel (if r.kind = 0x26 then [0xFF, 0xFF] else []))) ∧
    (r.kind = 0x11 →
      (r.payload.length < 2 ∨ ¬ Tiles (r.payload.drop 2) → exec i s = .next (s.repliedTo r .badLength [])) ∧
      (2 ≤ r.payload.length → Tiles (r.payload.drop 2) → 9 < (r.payload.getD 0 0).toNat →
        exec i s = .next (s.repliedTo r .badChannel []))) ∧
    (r.kind = 0x14 → r.payload.length = 0 ∨ 56 < r.payload.length ∨ r.payload.length % 7 ≠ 0 →
      exec i s = .next (s.repliedTo r .badLength []))

/-- The queries answer and change nothing else (R150, R169, R178, R191, R195), but that QUERY_LINK clears the events-lost
flag it has reported (R187), and QUERY_INPUTS and QUERY_FAULTS use up free values (log 9, 42). The replies carry the
fields of 12.6.8 in its order, each as State holds it, with the codes of 12.6.2, 12.6.3 and 12.6.8, and have its lengths.
Model's choices: milliseconds are rounded down in IDENTIFY and QUERY_BUS (log 13), the time since entry in QUERY_BUS
wraps at 2^32 (log 53), QUERY_LINK reports the fills that the execution finds (log 14), and READ_PROFILE returns a
window's cap field as taken where the cap is absent (log 24) and calibrated offsets as the SENSING values last taken
(log 49): R191 says neither. -/
def Obligations.QueriesOnlyAnswer : Prop :=
  (∀ s tag,
    (s.CanServe ⟨0x10, tag, []⟩ →
      exec (.identify tag []) s = .next (s.repliedTo ⟨0x10, tag, []⟩ .ok
        ([0x56, 0x47, 0x10, 0x4C, 1, 10, s.resetCause.code] ++ le32 ((s.now - s.resetAt) / 80000)))) ∧
    (s.CanServe ⟨0x32, tag, []⟩ → exec (.queryBus tag []) s = .next (s.repliedTo ⟨0x32, tag, []⟩ .ok s.busLayout) ∧
      s.busLayout.length = 48) ∧
    (s.CanServe ⟨0x33, tag, []⟩ → exec (.queryInputs tag []) s =
        .next { s.repliedTo ⟨0x33, tag, []⟩ .ok s.inputLayout with free := s.free + 16 } ∧
      s.inputLayout.length = 90) ∧
    (s.CanServe ⟨0x34, tag, []⟩ → exec (.queryLink tag []) s =
        .next { s.repliedTo ⟨0x34, tag, []⟩ .ok s.linkLayout with
          report := { (s.repliedTo ⟨0x34, tag, []⟩ .ok s.linkLayout).report with eventsLost := false } } ∧
      s.linkLayout.length = 28) ∧
    ∀ (c : ChannelId) (b : Byte), b.toNat = c.val →
      (s.CanServe ⟨0x30, tag, [b]⟩ → exec (.queryChannel tag [b]) s =
          .next (s.repliedTo ⟨0x30, tag, [b]⟩ .ok (s.channelLayout c)) ∧ (s.channelLayout c).length = 122) ∧
      (s.CanServe ⟨0x31, tag, [b]⟩ → exec (.queryFaults tag [b]) s =
          .next { s.repliedTo ⟨0x31, tag, [b]⟩ .ok (s.faultLayout c) with free := s.free + 1 } ∧
        (s.faultLayout c).length = 28 + 3 * (s.ch c).record.pending.length) ∧
      (∀ code : Byte, s.CanServe ⟨0x12, tag, [b, code]⟩ →
        (code = 0 ∨ 9 < code.toNat →
          exec (.readProfile tag [b, code]) s = .next (s.repliedTo ⟨0x12, tag, [b, code]⟩ .badValue [])) ∧
        (0 < code.toNat → code.toNat ≤ 9 → ∀ pending body, (pending, body) = (s.ch c).blockLayout code.toNat →
          exec (.readProfile tag [b, code]) s = .next (s.repliedTo ⟨0x12, tag, [b, code]⟩ .ok
            ([if pending then 1 else 0, code, BitVec.ofNat 8 body.length] ++ body))))) ∧
  CodesStand

/-! ## Profiles -/

/-- LOAD_PROFILE takes an unconfigured channel to DISABLED with every block of the telegram in force, the kind set, the
timebase started at 0 counting up with period 0 and the telemetry countdown started (R1, R2, R57, R190, R192). It says
so where no source waits to be raised at that moment. The blocks' fields stand where 12.6.5 has them and are taken as
their rules say (R8, R10, R11, R13, R16, R40, R54, R55, R101, R102, R109, R132); the cap field of a window without a cap
is kept too, which is the model's choice (log 24). Without one of the four blocks a first profile needs, the request is
refused with MISSING_BLOCK, in whatever order its levels stand. A kind byte other than AXIS and SPINDLE, or a block that
is wrong, is refused with BAD_VALUE in every state that takes the request, and so are levels or windows out of order
(R102, R109), on an AXIS and on a SPINDLE, in a first profile and in a later one, where no check before them refuses
it. -/
def Obligations.LoadProfileConfigures : Prop :=
  (∀ s tag payload r c k tiles, r = ⟨0x11, tag, payload⟩ → s.CanServe r → IsProfile payload c k tiles →
    (s.ch c).state ∈ [.unconfigured, .disabled, .running] →
    (1 < k.toNat ∨ ¬ TilesFit tiles → exec (.loadProfile tag payload) s = .next (s.repliedTo r .badValue [])) ∧
    (∀ b kind, KindIs k kind → TilesFit tiles → b = blocksLayout tiles → ¬ b.InOrder →
      ((s.ch c).state = .unconfigured → b.HasFour) →
      ((s.ch c).state ≠ .unconfigured → (s.ch c).kind = kind) →
      (s.isCoupled c = true → b.timebase = none) →
      ((s.ch c).state = .running → b.timebase = none ∧ b.encoder = none ∧ b.sensing = none) →
      exec (.loadProfile tag payload) s = .next (s.repliedTo r .badValue []))) ∧
  ∀ s tag payload r c k kind tiles b, r = ⟨0x11, tag, payload⟩ → s.CanServe r → IsProfile payload c k tiles →
    KindIs k kind → TilesFit tiles → b = blocksLayout tiles → (s.ch c).state = .unconfigured →
    (¬ b.HasFour → exec (.loadProfile tag payload) s = .next (s.repliedTo r .missingBlock [])) ∧
    (s.isCoupled c = false → b.InOrder → b.HasFour → (s.ch c).sample.driverAsserted = false → s.bus.ovOpen = false →
      (∀ i, (s.input i).active = true → (s.input i).stoFor c = false) →
      ∃ t, exec (.loadProfile tag payload) s = .next t ∧ s.OthersKept [c] t ∧
        ∀ x y, x = s.ch c → y = t.ch c →
          y.state = .disabled ∧ y.kind = kind ∧ b.timebase = some y.timebase ∧ b.loop = some y.loop ∧
          b.encoder = some y.encoder ∧ b.limits = some y.limits ∧ y.sensing = b.sensing.getD x.sensing ∧
          y.thermal = b.thermal.getD x.thermal ∧ y.windows = b.windows.getD x.windows ∧
          y.faults = b.faults.getD x.faults ∧ y.idle = b.idle.getD x.idle ∧ y.tb.counter = 0 ∧ y.tb.up = true ∧
          y.tb.period = 0 ∧ y.tb.periodStart = s.now ∧ y.tb.gateMode = .off ∧ y.pos.relatch = true ∧
          y.divisor = x.divisor ∧ y.countdown = (if x.divisor = 0 then none else some x.divisor))

/-- LOAD_PROFILE on a configured channel of the same kind (R1, R16, R54, R109, R132, R190): in DISABLED all blocks are
in force at once but TIMEBASE and ENCODER, which wait for the valley; in RUNNING TIMEBASE, ENCODER and SENSING are
refused and all others wait; in the states between it is refused. The blocks' fields stand where 12.6.5 has them, taken
as R8, R10, R11, R13, R16, R40, R54, R55, R101, R102, R109 and R132 say; the cap field of a window without a cap is kept
too, which is the model's choice (log 24). A telegram of the other kind is refused with BAD_VALUE, and one that carries
a TIMEBASE for a coupled channel with COUPLED, no block taken (R129, R190). -/
def Obligations.LoadProfileWaitsForValley : Prop :=
  (∀ s tag payload r c k kind tiles b x, r = ⟨0x11, tag, payload⟩ → s.CanServe r → IsProfile payload c k tiles →
    KindIs k kind → TilesFit tiles → b = blocksLayout tiles → x = s.ch c → x.state = .disabled ∨ x.state = .running →
    (x.kind ≠ kind → exec (.loadProfile tag payload) s = .next (s.repliedTo r .badValue [])) ∧
    (x.kind = kind → s.isCoupled c = true → b.timebase ≠ none →
      exec (.loadProfile tag payload) s = .next (s.repliedTo r .coupled []))) ∧
  ∀ s tag payload r c k kind tiles b x, r = ⟨0x11, tag, payload⟩ → s.CanServe r → IsProfile payload c k tiles →
    KindIs k kind → TilesFit tiles → b = blocksLayout tiles → x = s.ch c → x.kind = kind → s.isCoupled c = false →
    b.InOrder →
    (x.state = .disabled → x.record.entries = [] →
      ∃ t, exec (.loadProfile tag payload) s = .next t ∧ s.OthersKept [c] t ∧ ∀ y, y = t.ch c →
        y.state = .disabled ∧ y.timebase = x.timebase ∧ y.encoder = x.encoder ∧
        y.waiting.timebase = b.timebase.or x.waiting.timebase ∧ y.waiting.encoder = b.encoder.or x.waiting.encoder ∧
        y.sensing = b.sensing.getD x.sensing ∧ y.loop = b.loop.getD x.loop ∧ y.limits = b.limits.getD x.limits ∧
        y.thermal = b.thermal.getD x.thermal ∧ y.windows = b.windows.getD x.windows ∧
        y.faults = b.faults.getD x.faults ∧ y.idle = b.idle.getD x.idle ∧ y.tb = x.tb) ∧
    (x.state = .running →
      (b.timebase ≠ none ∨ b.encoder ≠ none ∨ b.sensing ≠ none →
        exec (.loadProfile tag payload) s = .next (s.repliedTo r .badState [])) ∧
      (b.timebase = none → b.encoder = none → b.sensing = none →
        exec (.loadProfile tag payload) s = .next ((s.repliedTo r .ok []).setCh c
          { x with waiting := { x.waiting with
            loop := b.loop.or x.waiting.loop
            limits := b.limits.or x.waiting.limits
            thermal := b.thermal.or x.waiting.thermal
            windows := b.windows.or x.waiting.windows
            faults := b.faults.or x.waiting.faults
            idle := b.idle.or x.waiting.idle } }))) ∧
    (x.state ≠ .unconfigured → x.state ≠ .disabled → x.state ≠ .running →
      exec (.loadProfile tag payload) s = .next (s.repliedTo r .badState []))

/-! ## Configuring the shared blocks -/

/-- CONFIGURE_BUS (R155, R156, R158, R164): refused during ride-through, for a support channel that does not exist, for
levels out of order and for a support channel that is no spindle, in this order; else the profile is held, the chopper
judged and the debounce count cleared, and a mains failure that stands begins a ride-through. The fields stand where
12.6.3 has them, taken as R155 says. -/
def Obligations.ConfigureBusTakesProfile : Prop :=
  ∀ s tag payload p support r, r = ⟨0x13, tag, payload⟩ → s.CanServe r → payload.length = 19 →
    p = busProfileLayout payload → support = byteAt payload 12 →
    (s.bus.ride ≠ .normal → exec (.configureBus tag payload) s = .next (s.repliedTo r .rideThrough [])) ∧
    (s.bus.ride = .normal → 9 < support → support ≠ 255 →
      exec (.configureBus tag payload) s = .next (s.repliedTo r .badChannel [])) ∧
    (s.bus.ride = .normal → support ≤ 9 ∨ support = 255 → ¬ (p.uOff < p.uOn ∧ p.uOn < p.uOv) →
      exec (.configureBus tag payload) s = .next (s.repliedTo r .badValue [])) ∧
    (s.bus.ride = .normal → p.uOff < p.uOn → p.uOn < p.uOv → ∀ c : ChannelId, support = c.val →
      (s.ch c).kind = .axis → exec (.configureBus tag payload) s = .next (s.repliedTo r .badValue [])) ∧
    (s.bus.ride = .normal → p.uOff < p.uOn → p.uOn < p.uOv →
      support = 255 ∨ (∃ c : ChannelId, support = c.val ∧ (s.ch c).kind = .spindle) →
      ∃ t, exec (.configureBus tag payload) s = .next t ∧
        t.bus.profile = some p ∧ t.bus.latest = s.bus.latest ∧ t.bus.uvDebounce = 0 ∧ t.bus.uvSet = s.bus.uvSet ∧
        t.bus.ovOpen = s.bus.ovOpen ∧
        t.bus.chopperOn = (decide (p.uOn ≤ s.bus.latest) || (s.bus.chopperOn && decide (p.uOff < s.bus.latest))) ∧
        t.bus.turnOns = (if p.uOn ≤ s.bus.latest ∧ s.bus.chopperOn = false then min 65535 (s.bus.turnOns + 1)
          else s.bus.turnOns) ∧
        (s.bus.mainsAsserted = false → t.bus.ride = .normal) ∧
        (s.bus.mainsAsserted = true → t.bus.ride = .rideThrough ∧ t.bus.rideTimer = some (s.now + p.tRide * 80000) ∧
          t.bus.ridesBegun = min 65535 (s.bus.ridesBegun + 1)) ∧
        ∀ c, (s.ch c).record.entries = [] → s.isCoupled c = false → t.ch c = s.ch c)

/-- CONFIGURE_INPUTS (R172, R173, R176, R177): records that name one input twice, or an input, function, polarity or
notice edge that does not exist, are refused with BAD_VALUE, an assignment to a channel above 9 with BAD_CHANNEL, a
configuration that would end an STO condition with BAD_STATE. Else every named input takes its record, whose fields
stand where 12.6.3 has them, keeping its level and change count; the reply carries the active states that result, bit i
for input i, said where no event is enabled; and STO is raised on each configured channel on which its condition begins
to hold. -/
def Obligations.ConfigureInputsTakesRecords : Prop :=
  ∀ s tag payload rs r, r = ⟨0x14, tag, payload⟩ → s.CanServe r → payload ≠ [] → payload.length ≤ 56 →
    payload.length % 7 = 0 → rs = inputsLayout payload →
    ((∃ x ∈ rs, 7 < x.input) ∨ ¬ (rs.map RawInput.input).Nodup ∨
        (∃ x ∈ rs, 3 < x.function ∨ 1 < x.polarity ∨ 3 < x.notice) →
      exec (.configureInputs tag payload) s = .next (s.repliedTo r .badValue [])) ∧
    ((∀ x ∈ rs, x.input ≤ 7 ∧ x.function ≤ 3 ∧ x.polarity ≤ 1 ∧ x.notice ≤ 3) → (rs.map RawInput.input).Nodup →
      ((∃ x ∈ rs, ((x.function = 1 ∨ x.function = 2) ∧ 9 < x.assignment) ∨ (x.function = 3 ∧ 1024 ≤ x.assignment)) →
        exec (.configureInputs tag payload) s = .next (s.repliedTo r .badChannel [])) ∧
      ((∀ x ∈ rs, ((x.function = 1 ∨ x.function = 2) → x.assignment ≤ 9) ∧
          (x.function = 3 → x.assignment < 1024)) →
        ∀ after : Vector Input 8,
          (∀ i : InputId, (∀ x ∈ rs, x.input = i.val → after[i] = x.configures (s.input i)) ∧
            ((∀ x ∈ rs, x.input ≠ i.val) → after[i] = s.input i)) →
          ((∃ c, (s.ch c).state ≠ .unconfigured ∧ stoHolds s.inputs c = true ∧ stoHolds after c = false) →
            exec (.configureInputs tag payload) s = .next (s.repliedTo r .badState [])) ∧
          ((∀ c, (s.ch c).state ≠ .unconfigured → stoHolds s.inputs c = true → stoHolds after c = true) →
            ∃ t, exec (.configureInputs tag payload) s = .next t ∧ t.inputs = after ∧ t.bus = s.bus ∧
              (s.report.Sound → s.report.enables = 0 →
                ∃ actives : Byte, (∀ i : InputId, actives.getLsbD i.val = (after[i].high != after[i].activeLow)) ∧
                  s.Sends t [[0, actives]]) ∧
              ∀ c, stoHolds s.inputs c = false → stoHolds after c = true →
                ((s.ch c).state ≠ .unconfigured → (t.ch c).record.seen.getLsbD 2 = true) ∧
                (s.RunsClear c 0 → t.StoppedBy c .sto))))

/-- CONFIGURE_REPORTS (R192) gives each channel its divisor and starts or stops its countdown, and writes the event
enables; a divisor that is none of the values is refused. CONFIGURE_LINK (R185) stores T_link and starts the watchdog,
or turns it off for 0. SET_MASK (R127, R148) refuses a threshold outside 2 to 5 and else writes the channel's, or the
pair's; FLUSH_SETPOINTS (R91) empties the queue that serves the channel and leaves its reference and its starvation
run. -/
def Obligations.SettingsTakeEffect : Prop :=
  ((∀ s tag payload r, r = ⟨0x15, tag, payload⟩ → s.CanServe r → payload.length = 11 →
    ((∃ k, k < 10 ∧ (payload.getD k 0).toNat ∉ [0, 1, 2, 4, 5, 8, 10, 16, 20, 50, 100, 200]) →
      exec (.configureReports tag payload) s = .next (s.repliedTo r .badValue [])) ∧
    ((∀ k, k < 10 → (payload.getD k 0).toNat ∈ [0, 1, 2, 4, 5, 8, 10, 16, 20, 50, 100, 200]) →
      ∃ t, exec (.configureReports tag payload) s = .next t ∧
        t = { s.repliedTo r .ok [] with
          channels := t.channels
          report := { (s.repliedTo r .ok []).report with enables := payload.getD 10 0 } } ∧
        ∀ c k, k = (payload.getD c.val 0).toNat →
          t.ch c = { s.ch c with divisor := k, countdown := if k = 0 then none else some k })) ∧
  (∀ s tag (b : Byte) r, r = ⟨0x16, tag, [b]⟩ → s.CanServe r →
    exec (.configureLink tag [b]) s = .next
      { s.repliedTo r .ok [] with link := { s.link with
        tLink := b.toNat
        watchdog := if b = 0 then .off else .running (s.now + b.toNat * 80000) } })) ∧
  ((∀ s tag (b m : Byte) c r, r = ⟨0x27, tag, [b, m]⟩ → s.CanServe r → b.toNat = c.val →
    (m.toNat < 2 ∨ 5 < m.toNat → exec (.setMask tag [b, m]) s = .next (s.repliedTo r .badValue [])) ∧
    (2 ≤ m.toNat → m.toNat ≤ 5 → ∃ t, exec (.setMask tag [b, m]) s = .next t ∧
      t = { s.repliedTo r .ok [] with channels := t.channels } ∧ s.OthersKept (s.group c) t ∧
      ∀ g ∈ s.group c, t.ch g = { s.ch g with faults := { (s.ch g).faults with mask := m.toNat } })) ∧
  (∀ s tag (b : Byte) c r x, r = ⟨0x28, tag, [b]⟩ → s.CanServe r → b.toNat = c.val → x = s.ch (s.leader c) →
    ((s.ch c).state = .unconfigured → exec (.flushSetpoints tag [b]) s = .next (s.repliedTo r .badState [])) ∧
    ((s.ch c).state ≠ .unconfigured → exec (.flushSetpoints tag [b]) s = .next ((s.repliedTo r .ok []).setCh (s.leader c)
      { x with queue := { x.queue with records := [] } }))))

/-! ## Operating a channel -/

/-- ENABLE (R58, R59, R73, R161): refused in UNCONFIGURED, STOPPING and FAULTED and without a bus profile, refused with
RIDE_THROUGH during ride-through, OK without effect on a channel that charges, runs or is parked; a DISABLED or
CALIBRATING channel enters CHARGING with its charge timer running and a calibration suspended; where the under-voltage
condition stands, DC_UNDER is raised at that entry. -/
def Obligations.EnableCharges : Prop :=
  ∀ s tag (b : Byte) c r x, r = ⟨0x20, tag, [b]⟩ → s.CanServe r → b.toNat = c.val → s.isCoupled c = false →
    x = s.ch c →
    (x.state = .unconfigured ∨ x.state.isStopping = true ∨ x.state = .faulted ∨ s.bus.profile = none →
      exec (.enable tag [b]) s = .next (s.repliedTo r .badState [])) ∧
    (x.state ≠ .unconfigured → x.state.isStopping = false → x.state ≠ .faulted → s.bus.profile ≠ none →
      (s.bus.ride ≠ .normal → exec (.enable tag [b]) s = .next (s.repliedTo r .rideThrough [])) ∧
      (s.bus.ride = .normal → x.state.isReference = true →
        exec (.enable tag [b]) s = .next (s.repliedTo r .ok [])) ∧
      (s.bus.ride = .normal → x.state = .disabled ∨ (x.state = .calibrating ∧ x.op.inProgress = some .calibrate) →
        x.tb.gateMode = .off → ∃ t, exec (.enable tag [b]) s = .next t ∧ s.OthersKept [c] t ∧ ∀ y, y = t.ch c →
          (s.bus.uvSet = false → y = { x with
            state := .charging
            tb := { x.tb with
              gateMode := .lowOn
              staged := none
              phaseA := y.tb.phaseA
              phaseB := y.tb.phaseB
              phaseC := y.tb.phaseC }
            timers := { x.timers with
              charge := some (s.now + x.idle.tBoot * 80)
              park := none
              holdoff := if x.state = .disabled then none else x.timers.holdoff }
            op :=
              { inProgress := some .charge, done := false,
                last := if x.state = .calibrating then some (.calibrate, .suspended) else x.op.last }
            cal :=
              if x.state = .calibrating then { x.cal with condition := .suspended, suspendedAt := s.now } else x.cal
            loopState := { x.loopState with intD := 0, intQ := 0, vd := 0, vq := 0, clampD := false, clampQ := false }
            eng := { x.eng with consecutiveLate := 0 } }) ∧
          (s.bus.uvSet = true → y.record.seen.getLsbD 6 = true) ∧
          (s.bus.uvSet = true → 2 < x.faults.mask → x.record.entries = [] →
            y.state = .faulted ∧ y.tb.gateMode = .off ∧ y.record.active = some (.own .dcUnder) ∧
            y.op = { inProgress := none, done := false, last := some (.charge, .aborted) } ∧ y.timers.charge = none)))

/-- ENABLE and DISABLE act on both channels of a coupled pair together. ENABLE (R122, R124), its conditions in their
order: refused where either channel stands in STOPPING or FAULTED, without a bus profile, and during ride-through; OK
without effect where both charge, both run or both are parked; where each stands in DISABLED or CALIBRATING, and no
under-voltage condition stands, both enter CHARGING, a calibration suspended, with the charge timer on the master alone;
any other combination is refused. DISABLE
(R123): a mode above 1 and a state of either channel that R64 refuses are refused and neither channel changes; else each
acts by its own row: an immediate stop, and any stop of CHARGING or PARKED, enters DISABLED, a ramp stop of a running
channel starts from its applied references, and a channel in DISABLED, CALIBRATING or already in the host's ramp goes on
as it was. -/
def Obligations.PairStartsAndStopsTogether : Prop :=
  (∀ s tag (b : Byte) c r, r = ⟨0x20, tag, [b]⟩ → b.toNat = c.val → s.isCoupled c = true → s.CanServe r →
    ((∃ g ∈ s.group c, (s.ch g).state.isStopping = true ∨ (s.ch g).state = .faulted) →
      exec (.enable tag [b]) s = .next (s.repliedTo r .badState [])) ∧
    (s.bus.profile = none → exec (.enable tag [b]) s = .next (s.repliedTo r .badState [])) ∧
    (s.bus.profile ≠ none → (∀ g ∈ s.group c, (s.ch g).state.isStopping = false ∧ (s.ch g).state ≠ .faulted ∧
        (s.ch g).state ≠ .unconfigured) →
      (s.bus.ride ≠ .normal → exec (.enable tag [b]) s = .next (s.repliedTo r .rideThrough [])) ∧
      (s.bus.ride = .normal →
        (∀ x ∈ [ChState.charging, .running, .parked], (∀ g ∈ s.group c, (s.ch g).state = x) →
          exec (.enable tag [b]) s = .next (s.repliedTo r .ok [])) ∧
        (∀ g ∈ s.group c, ∀ h ∈ s.group c, (s.ch g).state.isReference = true → (s.ch h).state ≠ (s.ch g).state →
          exec (.enable tag [b]) s = .next (s.repliedTo r .badState [])) ∧
        (s.bus.uvSet = false → (∀ g ∈ s.group c, (s.ch g).state = .disabled ∨
            ((s.ch g).state = .calibrating ∧ (s.ch g).op.inProgress = some .calibrate)) →
          ∃ t, exec (.enable tag [b]) s = .next t ∧ s.OthersKept (s.group c) t ∧
            ∀ g ∈ s.group c, ∀ x y, x = s.ch g → y = t.ch g → y.state = .charging ∧ y.tb.gateMode = .lowOn ∧
              y.op.inProgress = some .charge ∧ y.op.done = false ∧ y.timers.park = none ∧
              y.timers.charge = (if g = masterOf (pairOf c) then some (s.now + x.idle.tBoot * 80) else none) ∧
              y.loopState.intD = 0 ∧ y.loopState.intQ = 0 ∧ y.eng.consecutiveLate = 0 ∧
              (x.state = .disabled → y.timers.holdoff = none ∧ y.cal = x.cal ∧ y.op.last = x.op.last) ∧
              (x.state = .calibrating → y.op.last = some (.calibrate, .suspended) ∧
                y.cal = { x.cal with condition := .suspended, suspendedAt := s.now }))))) ∧
  (∀ s tag (b m : Byte) c r, r = ⟨0x21, tag, [b, m]⟩ → b.toNat = c.val → s.isCoupled c = true → s.CanServe r →
    (1 < m.toNat → exec (.disable tag [b, m]) s = .next (s.repliedTo r .badValue [])) ∧
    (m.toNat ≤ 1 →
      ((∃ g ∈ s.group c, (s.ch g).state ∈ [.unconfigured, .faulted, .stopping .rampFault, .stopping .brake]) →
        exec (.disable tag [b, m]) s = .next (s.repliedTo r .badState [])) ∧
      ((∀ g ∈ s.group c, (s.ch g).state ∈ [.disabled, .calibrating] ∨ ((s.ch g).state = .stopping .rampHost ∧ m = 1)) →
        exec (.disable tag [b, m]) s = .next (s.repliedTo r .ok [])) ∧
      ((∀ g ∈ s.group c, (s.ch g).state ∉ [.unconfigured, .faulted, .stopping .rampFault, .stopping .brake]) →
        ∃ t, exec (.disable tag [b, m]) s = .next t ∧ s.OthersKept (s.group c) t ∧
          ∀ g ∈ s.group c, ∀ x y, x = s.ch g → y = t.ch g → y.record = x.record ∧ y.pos = x.pos ∧ y.cal = x.cal ∧
            (x.state ∈ [.disabled, .calibrating] ∨ (x.state = .stopping .rampHost ∧ m = 1) →
              y.state = x.state ∧ y.op = x.op ∧ y.queue = x.queue ∧ y.stop = x.stop ∧ y.eng = x.eng) ∧
            (x.state ∈ [.charging, .parked] ∨ (x.state ∈ [.running, .stopping .rampHost] ∧ m = 0) →
              y.state = .disabled ∧ y.tb.gateMode = .off ∧ y.queue.records = [] ∧ y.stop.rd = 0 ∧ y.stop.rq = 0 ∧
              y.timers.charge = none ∧ y.timers.park = none ∧ y.op.inProgress = none ∧
              (∀ o, x.op.inProgress = some o → y.op.last = some (o, .aborted)) ∧
              (x.state.computes = true → y.eng.slot = .empty ∧ y.eng.mark = none)) ∧
            (x.state = .running → m = 1 → y.state = .stopping .rampHost ∧ y.op.inProgress = some .hostStop ∧
              y.op.done = false ∧ y.stop.rd = x.ref.appliedId ∧ y.stop.rq = x.ref.appliedIq ∧ y.timers.park = none ∧
              y.queue = x.queue ∧ y.eng = x.eng))))

/-- DISABLE (R64, R65, R66): a mode above 1 is refused with BAD_VALUE, UNCONFIGURED, FAULTED and a stop of a fault with
BAD_STATE; DISABLED and CALIBRATING answer OK without effect; an immediate stop, and any stop of a channel that charges
or is parked, turns the gates off and enters DISABLED with the operation aborted and the queue emptied; a ramp stop of a
running channel starts from the applied references. -/
def Obligations.DisableStops : Prop :=
  ∀ s tag (b m : Byte) c r x, r = ⟨0x21, tag, [b, m]⟩ → s.CanServe r → b.toNat = c.val → s.isCoupled c = false →
    x = s.ch c → x.gatesSound = true →
    (1 < m.toNat → exec (.disable tag [b, m]) s = .next (s.repliedTo r .badValue [])) ∧
    (m.toNat ≤ 1 →
      (x.state ∈ [.unconfigured, .faulted, .stopping .rampFault, .stopping .brake] →
        exec (.disable tag [b, m]) s = .next (s.repliedTo r .badState [])) ∧
      (x.state ∈ [.disabled, .calibrating] ∨ (x.state = .stopping .rampHost ∧ m = 1) →
        exec (.disable tag [b, m]) s = .next (s.repliedTo r .ok [])) ∧
      (x.state ∈ [.charging, .parked] ∨ (x.state ∈ [.running, .stopping .rampHost] ∧ m = 0) →
        ∃ t, exec (.disable tag [b, m]) s = .next t ∧ s.OthersKept [c] t ∧ ∀ y, y = t.ch c →
          y.state = .disabled ∧ y.tb.gateMode = .off ∧ y.allOff = true ∧ y.queue.records = [] ∧
          y.queue.baseId = 0 ∧ y.queue.baseIq = 0 ∧ y.stop.rd = 0 ∧ y.stop.rq = 0 ∧ y.timers.charge = none ∧
          y.timers.park = none ∧ y.op.inProgress = none ∧
          (∀ o, x.op.inProgress = some o → y.op.last = some (o, .aborted)) ∧
          (x.op.inProgress = none → y.op = x.op) ∧ y.record = x.record ∧ y.pos = x.pos ∧
          (x.state.computes = true → y.eng.slot = .empty ∧ y.eng.mark = none)) ∧
      (x.state = .running → m = 1 →
        ∃ t, exec (.disable tag [b, m]) s = .next t ∧ s.OthersKept [c] t ∧ t.ch c = { x with
          state := .stopping .rampHost
          op := { x.op with inProgress := some .hostStop, done := false }
          timers := { x.timers with park := none }
          stop := { x.stop with rd := x.ref.appliedId, rq := x.ref.appliedIq } }))

/-- CALIBRATE and CANCEL_OPERATION (R71, R74, R75): a calibration starts from nothing in DISABLED, or resumes a suspended
one at once, over again where it is stale; in any other state it is refused. Cancelling one in progress ends it in
DISABLED, cancelling a suspended one discards it, and with neither the request is refused. -/
def Obligations.CalibrateAndCancel : Prop :=
  ∀ s tag (b : Byte) c x, b.toNat = c.val → x = s.ch c →
    (s.CanServe ⟨0x22, tag, [b]⟩ →
      (x.state ≠ .disabled →
        exec (.calibrate tag [b]) s = .next (s.repliedTo ⟨0x22, tag, [b]⟩ .badState [])) ∧
      (x.state = .disabled → x.tb.gateMode = .off → ∃ t, exec (.calibrate tag [b]) s = .next t ∧
        s.OthersKept [c] t ∧ ∀ fresh : Bool,
          (fresh = true ↔ x.cal.condition ≠ .suspended ∨ x.idle.tStale * 8000000 < s.now - x.cal.suspendedAt) →
          t.ch c = { x with
            state := .calibrating
            timers := { x.timers with holdoff := none }
            op := { x.op with inProgress := some .calibrate, done := false }
            cal := { x.cal with
              condition := .running
              sumA := if fresh then 0 else x.cal.sumA
              sumB := if fresh then 0 else x.cal.sumB
              count := if fresh then 0 else x.cal.count } })) ∧
    (s.CanServe ⟨0x23, tag, [b]⟩ →
      (x.cal.condition = .empty →
        exec (.cancelOperation tag [b]) s = .next (s.repliedTo ⟨0x23, tag, [b]⟩ .badState [])) ∧
      (x.cal.condition = .suspended → exec (.cancelOperation tag [b]) s =
        .next ((s.repliedTo ⟨0x23, tag, [b]⟩ .ok []).setCh c { x with
          cal := { x.cal with condition := .empty, sumA := 0, sumB := 0, count := 0 }
          timers := { x.timers with holdoff := none }
          op := { x.op with done := false, last := some (.calibrate, .aborted) } })) ∧
      (x.cal.condition = .running → x.state = .calibrating → x.op.inProgress = some .calibrate →
        ∃ t, exec (.cancelOperation tag [b]) s = .next t ∧ s.OthersKept [c] t ∧ (t.ch c).state = .disabled ∧
          (t.ch c).cal = { x.cal with condition := .empty, sumA := 0, sumB := 0, count := 0 } ∧
          (t.ch c).op = { inProgress := none, done := false, last := some (.calibrate, .aborted) } ∧
          (t.ch c).sensing = x.sensing))

/-- COUPLE (R116, R117): refused where the pair is coupled, a channel is not DISABLED or is a spindle, or the two
timebases differ or wait to change; else the coupling values are stored and the follower takes the master's counter,
direction, period number and mask threshold, an empty queue, and a first latch. The four values stand where 12.6.3 has
them, taken as R116 says. -/
def Obligations.CoupleJoinsFollower : Prop :=
  ∀ s tag (b : Byte) values p r m f, r = ⟨0x24, tag, b :: values⟩ → s.CanServe r → b.toNat = p.val →
    values.length = 12 → m = s.ch (masterOf p) → f = s.ch (followerOf p) →
    ((s.pair p).coupled = true → exec (.couple tag (b :: values)) s = .next (s.repliedTo r .coupled [])) ∧
    ((s.pair p).coupled = false →
      m.state ≠ .disabled ∨ f.state ≠ .disabled ∨ m.kind = .spindle ∨ f.kind = .spindle ∨
        m.timebase.prescale ≠ f.timebase.prescale ∨ m.timebase.n ≠ f.timebase.n ∨
        m.timebase.mode ≠ f.timebase.mode ∨ m.waiting.timebase ≠ none ∨ f.waiting.timebase ≠ none →
      exec (.couple tag (b :: values)) s = .next (s.repliedTo r .badState [])) ∧
    ((s.pair p).coupled = false → m.state = .disabled → f.state = .disabled → m.kind = .axis → f.kind = .axis →
      m.timebase.prescale = f.timebase.prescale → m.timebase.n = f.timebase.n → m.timebase.mode = f.timebase.mode →
      m.waiting.timebase = none → f.waiting.timebase = none →
      exec (.couple tag (b :: values)) s = .next
        (((s.repliedTo r .ok []).setPair p
          { coupled := true
            kskew := min 32767 (wordAt values 0)
            corrMax := min 32767 (wordAt values 2)
            skewLimit := max 1 (min 2147483647 (longAt values 4))
            skewOffset := BitVec.ofNat 32 (longAt values 8)
            delta := 0, corr := 0, skewHolds := false, skewRaised := false }).setCh
          (followerOf p)
          { f with
            tb := { f.tb with
              counter := m.tb.counter
              up := m.tb.up
              period := m.tb.period
              periodStart := m.tb.periodStart }
            pos := { f.pos with relatch := true }
            queue := { f.queue with records := [], baseId := 0, baseIq := 0, starvation := 0, starved := false }
            faults := { f.faults with mask := m.faults.mask } }))

/-- UNCOUPLE (R128): nothing for a pair that is not coupled, BAD_STATE unless both channels stand in DISABLED or
FAULTED; else the pair is released with its coupling values kept, the AUTO PARTNER entries leave both records, HELD
entries stay, and a channel whose record becomes empty passes from FAULTED to DISABLED. -/
def Obligations.UncoupleReleasesPair : Prop :=
  ∀ s tag (b : Byte) p r, r = ⟨0x25, tag, [b]⟩ → s.CanServe r → b.toNat = p.val →
    ((s.pair p).coupled = false → exec (.uncouple tag [b]) s = .next (s.repliedTo r .ok [])) ∧
    ((s.pair p).coupled = true → (∃ g ∈ [masterOf p, followerOf p], (s.ch g).state.isStopped = false) →
      exec (.uncouple tag [b]) s = .next (s.repliedTo r .badState [])) ∧
    ((s.pair p).coupled = true → (∀ g ∈ [masterOf p, followerOf p], (s.ch g).state.isStopped = true) →
      s.RecordsSound →
      (∀ g ∈ [masterOf p, followerOf p], ∀ e ∈ (s.ch g).record.entries,
        e.isPartner = true ∨ e.endMode (s.ch g).faults = .held) →
      ∃ t, exec (.uncouple tag [b]) s = .next t ∧ s.OthersKept [masterOf p, followerOf p] t ∧
        t.pair p = { s.pair p with coupled := false, delta := 0, corr := 0, skewHolds := false, skewRaised := false } ∧
        (∀ q, q ≠ p → t.pair q = s.pair q) ∧
        ∀ g ∈ [masterOf p, followerOf p],
          (∀ e, e ∈ (t.ch g).record.entries ↔
            e ∈ (s.ch g).record.entries ∧ e.endMode (s.ch g).faults = .held) ∧
          (t.ch g).record.seen = (s.ch g).record.seen ∧
          (t.ch g).state = if (t.ch g).record.entries = [] then .disabled else .faulted)

/-- CLEAR_FAULTS on a channel that is not coupled (R146, R147, R149): BAD_STATE in UNCONFIGURED; HELD entries whose
condition has ended leave with their FAULT_CLEARED events, the seen set and the first-fault record are cleared, and
a FAULTED channel whose record is empty passes to DISABLED, all after the reply with its summary; an entry whose
condition holds stays. The events follow the entries' order (log 43). Where the active source leaves and others
stay, the head of those is promoted without an event, and the reply names it (R138). On a coupled pair the request
acts on both records (R127): own sources whose conditions have ended leave with the PARTNER entries they caused, and
each that is FAULTED passes to DISABLED; a source whose condition holds stays, and so does its PARTNER. In a state
other than FAULTED entries leave in the same way and the reaction that runs goes on to its end (R137): a channel
that stops for a fault stays as it was but for its record, unless the head that is promoted turns the gates off.
Where no record of the group holds an entry, the request clears the seen sets and the first-fault records. -/
def Obligations.ClearFaultsEmptiesRecord : Prop :=
  (∀ s tag (b : Byte) c r x, r = ⟨0x26, tag, [b]⟩ → s.CanServe r → b.toNat = c.val → s.isCoupled c = false →
    x = s.ch c →
    (x.state = .unconfigured → exec (.clearFaults tag [b]) s = .next (s.repliedTo r .badState [0xFF, 0xFF])) ∧
    (x.state = .faulted → (x.record.active = none → x.record.pending = []) →
      (∀ e ∈ x.record.entries, e.isPartner = false ∧ e.endMode x.faults = .held ∧ s.conditionHolds c e = false) →
      x.record.entries.Nodup →
      ∃ t, exec (.clearFaults tag [b]) s = .next t ∧ s.OthersKept [c] t ∧ (t.ch c).state = .disabled ∧
        (t.ch c).record = { active := none, pending := [], seen := 0, first := none } ∧
        (s.RoomFor (x.record.entries.length + 2) → s.Sends t
          ([[0, 0xFF, 0xFF]] ++
            x.record.entries.map (fun e =>
              [2, BitVec.ofNat 8 c.val, BitVec.ofNat 8 e.code, BitVec.ofNat 8 e.causeCode, 1] ++
                le16 x.tb.period.toNat) ++
            [[3, BitVec.ofNat 8 c.val, 7, 1] ++ le16 x.tb.period.toNat]))) ∧
    (∀ e, x.state = .faulted → x.record.active = some (.own e) → x.record.pending = [] →
      s.conditionHolds c (.own e) = true → exec (.clearFaults tag [b]) s =
        .next ((s.repliedTo r .ok [BitVec.ofNat 8 e.code, 0xFF]).setCh c
          { x with record := { x.record with seen := 0, first := none } }))) ∧
  (∀ s tag (b : Byte) c r x stays, r = ⟨0x26, tag, [b]⟩ → s.CanServe r → b.toNat = c.val → s.isCoupled c = false →
    x = s.ch c → x.state = .faulted → x.record.Sound →
    (∀ e ∈ x.record.entries, e.isPartner = false ∧ e.endMode x.faults = .held) →
    stays = x.record.entries.filter (fun e => s.conditionHolds c e) → stays ≠ [] →
    ∃ t, exec (.clearFaults tag [b]) s = .next t ∧ s.OthersKept [c] t ∧ (t.ch c).state = .faulted ∧
      (t.ch c).record = { active := stays.head?, pending := stays.tail, seen := 0, first := none } ∧
      (s.RoomFor (x.record.entries.length + 1) → s.Sends t
        ([[0, BitVec.ofNat 8 ((stays.head?.map Entry.code).getD 0xFF), 0xFF]] ++
          (x.record.entries.filter (fun e => !s.conditionHolds c e)).map (fun e =>
            [2, BitVec.ofNat 8 c.val, BitVec.ofNat 8 e.code, 0xFF, 1] ++ le16 x.tb.period.toNat)))) ∧
  (∀ s tag (b : Byte) c r, r = ⟨0x26, tag, [b]⟩ → s.CanServe r → b.toNat = c.val → (s.ch c).state ≠ .unconfigured →
    (∀ g ∈ s.group c, (s.ch g).state ≠ .faulted ∧ (s.ch g).record.entries = []) →
    exec (.clearFaults tag [b]) s = .next ((s.repliedTo r .ok [0xFF, 0xFF]).forEach (s.group c) (fun g t =>
      t.setCh g { s.ch g with record := { active := none, pending := [], seen := 0, first := none } }))) ∧
  (∀ s tag (b : Byte) c r x stays, r = ⟨0x26, tag, [b]⟩ → s.CanServe r → b.toNat = c.val → s.isCoupled c = false →
    x = s.ch c → x.state = .stopping .rampFault ∨ x.state = .stopping .brake → x.record.Sound →
    (∀ e ∈ x.record.entries, e.isPartner = false ∧ e.endMode x.faults = .held) →
    stays = x.record.entries.filter (fun e => s.conditionHolds c e) →
    ∃ t y, exec (.clearFaults tag [b]) s = .next t ∧ s.OthersKept [c] t ∧ y = t.ch c ∧
      y.record = { active := stays.head?, pending := stays.tail, seen := 0, first := none } ∧
      (stays.head? = none ∨ stays.head? = x.record.active ∨
          (∃ e, stays.head? = some e ∧ e.reaction x.faults = .rampStop) →
        y = { x with record := y.record }) ∧
      ((∃ e, stays.head? = some e ∧ x.record.active ≠ some e ∧ e.reaction x.faults = .gatesOff) →
        y.state = .faulted ∧ y.tb.gateMode = .off ∧ y.stop.rd = 0 ∧ y.stop.rq = 0 ∧ y.timers.brake = none ∧
        y.op.inProgress = none ∧ (x.state = .stopping .rampFault → y.eng.slot = .empty ∧ y.eng.mark = none) ∧
        (x.op.inProgress.isSome → y.op.last = x.op.inProgress.map (fun o => (o, .aborted)))) ∧
      (s.RoomFor (x.record.entries.length + 2) → s.Sends t
        ([[0, BitVec.ofNat 8 ((stays.head?.map Entry.code).getD 0xFF), 0xFF]] ++
          (x.record.entries.filter (fun e => !s.conditionHolds c e)).map (fun e =>
            [2, BitVec.ofNat 8 c.val, BitVec.ofNat 8 e.code, 0xFF, 1] ++ le16 x.tb.period.toNat) ++
          if y.state = .faulted then
            [[3, BitVec.ofNat 8 c.val, x.state.byte, 7] ++ le16 x.tb.period.toNat]
          else []))) ∧
  (∀ s tag (b : Byte) c r, r = ⟨0x26, tag, [b]⟩ → s.CanServe r → b.toNat = c.val → s.isCoupled c = true →
    (∀ g ∈ s.group c, (s.ch g).record.Sound ∧
      ((s.ch g).state = .faulted ∨ (s.ch g).state = .stopping .rampFault ∨ (s.ch g).state = .stopping .brake)) →
    ((∀ g ∈ s.group c, ∀ e ∈ (s.ch g).record.entries, e.isPartner = false →
        e.endMode (s.ch g).faults = .held ∧ s.conditionHolds g e = false) →
      ∃ t, exec (.clearFaults tag [b]) s = .next t ∧ s.OthersKept (s.group c) t ∧ ∀ g ∈ s.group c,
        (t.ch g).record = { active := none, pending := [], seen := 0, first := none } ∧
        ((s.ch g).state = .faulted → (t.ch g).state = .disabled) ∧
        ((s.ch g).state ≠ .faulted → t.ch g = { s.ch g with record := (t.ch g).record })) ∧
    (∀ d e reaction endMode, d ∈ s.group c → (s.ch d).record.active = some (.own e) → (s.ch d).record.pending = [] →
      s.conditionHolds d (.own e) = true → (s.ch (mateOf d)).record.active = some (.partner e reaction endMode) →
      (s.ch (mateOf d)).record.pending = [] →
      ∃ t, exec (.clearFaults tag [b]) s = .next t ∧ s.OthersKept (s.group c) t ∧ ∀ g ∈ s.group c, ∀ x, x = s.ch g →
        t.ch g = { x with record := { x.record with seen := 0, first := none } }))

/-- CHANNEL_RESET (R77 and the reset tables of R17, R39, R52, R78, R95, R114, R152): refused for a coupled channel; else
the channel stands at its reset values with its gates off, keeping its position count, its latches, its gate-driver
level and its telemetry divisor; its computation is discarded uncounted (R46) and the bus profile forgets it as support
channel (R156). Model's choices: the STATE event is sent from UNCONFIGURED too and carries the period held before
(log 12), and what the reset tables leave out takes the values of log 23. -/
def Obligations.ChannelResetClears : Prop :=
  ∀ s tag (b : Byte) c r x, r = ⟨0x38, tag, [b]⟩ → s.CanServe r → b.toNat = c.val → x = s.ch c →
    (s.isCoupled c = true → exec (.channelReset tag [b]) s = .next (s.repliedTo r .coupled [])) ∧
    (s.isCoupled c = false → x.gatesSound = true → ∃ t, exec (.channelReset tag [b]) s = .next t ∧
      s.OthersKept [c] t ∧
      (∀ y, y = t.ch c → y.allOff = true ∧ y = { Channel.reset with
        tb := { Timebase.reset with phaseA := y.tb.phaseA, phaseB := y.tb.phaseB, phaseC := y.tb.phaseC }
        sample := { Sample.reset with driverAsserted := x.sample.driverAsserted }
        pos := { Position.reset with
          count := x.pos.count
          tracks := x.pos.tracks
          latched := x.pos.latched
          previous := x.pos.previous }
        divisor := x.divisor }) ∧
      t.engine = s.engine.map (fun k =>
        if k.request.channel = c then { k with left := true, wasReset := true } else k) ∧
      (∀ p, s.bus.profile = some p → p.support = some c →
        t.bus = { s.bus with profile := some { p with support := none }, supportCurrent := 0 }) ∧
      ((∀ p, s.bus.profile = some p → p.support ≠ some c) → t.bus = s.bus) ∧
      (s.RoomFor 2 → s.Sends t
        [[0], [3, BitVec.ofNat 8 c.val, x.state.byte, 0] ++ le16 x.tb.period.toNat]))

/-! ## What every command keeps -/

/-- Only LOAD_PROFILE takes a channel out of UNCONFIGURED (R57), and only a device reset or CHANNEL_RESET takes one
there (R77, R196). -/
def Obligations.OnlyLoadProfileConfigures : Prop :=
  ∀ i s t c, exec i s = .next t →
    ((s.ch c).state = .unconfigured → s.isCoupled c = false → (s.ch c).cal.condition = .empty →
      (t.ch c).state ≠ .unconfigured → ∃ tag payload, i = .loadProfile tag payload) ∧
    ((s.ch c).state ≠ .unconfigured → (t.ch c).state = .unconfigured →
      i = .powerOn ∨ i = .resetLineAssert ∨ i = .resetLineRelease ∨ i = .deviceResetTakesEffect ∨ i = .transmitEnd ∨
        ∃ tag payload, i = .channelReset tag payload)

/-- A motor is driven only by the host's will: a channel enters CHARGING only by ENABLE or by a wake at a valley, and
RUNNING only from CHARGING by its charge timer (R58, R60, R63). -/
def Obligations.OnlyEnableOrWakeCharges : Prop :=
  ∀ i s t c, exec i s = .next t → s.PairsSound →
    ((s.ch c).state ≠ .charging → (t.ch c).state = .charging →
      (∃ tag payload, i = .enable tag payload) ∨ ∃ d, d ∈ s.group c ∧ i = .valley d ∧ (s.ch c).state = .parked) ∧
    ((s.ch c).state ≠ .running → (t.ch c).state = .running →
      (s.ch c).state = .charging ∧ ∃ d, d ∈ s.group c ∧ i = .chargeTimerExpiry d)

/-- The gates of every channel stay sound under every step: the gate mode is that of the state (R56), no two switches
of a phase are on together (R7), and no switch is on without its demand (R6). -/
def Obligations.StepKeepsGatesSound : Prop :=
  ∀ s t, s.GatesSound → step s = .next t → t.GatesSound

/-- Every step keeps the setpoint queues sound: at most 16 records, each of a period to come, in strictly increasing
distance (R80); empty where the state takes none (R90), and empty for a follower (R92). -/
def Obligations.StepKeepsQueuesSound : Prop :=
  ∀ s t, s.QueuesSound → step s = .next t → t.QueuesSound

/-- Every step keeps the fault records sound: no entry twice, the pending list in order of priority behind the active
source, none pending without an active source (R131, R135, R136, R138), and entries only in FAULTED and in a stop of a
fault (R147); with them the two channels of a coupled pair keep charging, running and parking together (R124, R126). -/
def Obligations.StepKeepsFaultRecordsSound : Prop :=
  ∀ s t, s.RecordsSound → s.PairsSound → step s = .next t → t.RecordsSound ∧ t.PairsSound

/-- Every step keeps the shared blocks sound: the command queue and the transmit queue within their lengths (R184,
R186), the chopper on only above U_off (R157, R158), and a derate flag set only above Aclear (R109, R111). -/
def Obligations.StepKeepsSharedBlocksSound : Prop :=
  ∀ s t, step s = .next t →
    (s.LinkSound → t.LinkSound) ∧ (s.bus.Sound → t.bus.Sound) ∧ (s.ThermalSound → t.ThermalSound)
end

