-- ==== Sys2Proof/Laws/State.lean ====
section
/-! SUPPORT. One lemma for each field of the state and each of its updates, and what reading a channel, a pair or an
input gives after a write. -/

namespace Sys2Proof.Machine

/-! ## Writing a channel -/

@[simp] theorem State.setCh_pending (s : State) (c : ChannelId) (x : Channel) :
    (s.setCh c x).pending = s.pending := rfl
@[simp] theorem State.setCh_now (s : State) (c : ChannelId) (x : Channel) : (s.setCh c x).now = s.now := rfl
@[simp] theorem State.setCh_free (s : State) (c : ChannelId) (x : Channel) : (s.setCh c x).free = s.free := rfl
@[simp] theorem State.setCh_resetHeld (s : State) (c : ChannelId) (x : Channel) :
    (s.setCh c x).resetHeld = s.resetHeld := rfl
@[simp] theorem State.setCh_resetCause (s : State) (c : ChannelId) (x : Channel) :
    (s.setCh c x).resetCause = s.resetCause := rfl
@[simp] theorem State.setCh_resetAt (s : State) (c : ChannelId) (x : Channel) :
    (s.setCh c x).resetAt = s.resetAt := rfl
@[simp] theorem State.setCh_pairs (s : State) (c : ChannelId) (x : Channel) : (s.setCh c x).pairs = s.pairs := rfl
@[simp] theorem State.setCh_engine (s : State) (c : ChannelId) (x : Channel) : (s.setCh c x).engine = s.engine := rfl
@[simp] theorem State.setCh_bus (s : State) (c : ChannelId) (x : Channel) : (s.setCh c x).bus = s.bus := rfl
@[simp] theorem State.setCh_inputs (s : State) (c : ChannelId) (x : Channel) : (s.setCh c x).inputs = s.inputs := rfl
@[simp] theorem State.setCh_inputsSampledAt (s : State) (c : ChannelId) (x : Channel) :
    (s.setCh c x).inputsSampledAt = s.inputsSampledAt := rfl
@[simp] theorem State.setCh_link (s : State) (c : ChannelId) (x : Channel) : (s.setCh c x).link = s.link := rfl
@[simp] theorem State.setCh_commands (s : State) (c : ChannelId) (x : Channel) :
    (s.setCh c x).commands = s.commands := rfl
@[simp] theorem State.setCh_resetAwaited (s : State) (c : ChannelId) (x : Channel) :
    (s.setCh c x).resetAwaited = s.resetAwaited := rfl
@[simp] theorem State.setCh_report (s : State) (c : ChannelId) (x : Channel) : (s.setCh c x).report = s.report := rfl

/-! ## Changing a channel -/

@[simp] theorem State.modCh_pending (s : State) (c : ChannelId) (f : Channel → Channel) :
    (s.modCh c f).pending = s.pending := rfl
@[simp] theorem State.modCh_now (s : State) (c : ChannelId) (f : Channel → Channel) : (s.modCh c f).now = s.now := rfl
@[simp] theorem State.modCh_free (s : State) (c : ChannelId) (f : Channel → Channel) :
    (s.modCh c f).free = s.free := rfl
@[simp] theorem State.modCh_resetHeld (s : State) (c : ChannelId) (f : Channel → Channel) :
    (s.modCh c f).resetHeld = s.resetHeld := rfl
@[simp] theorem State.modCh_resetCause (s : State) (c : ChannelId) (f : Channel → Channel) :
    (s.modCh c f).resetCause = s.resetCause := rfl
@[simp] theorem State.modCh_resetAt (s : State) (c : ChannelId) (f : Channel → Channel) :
    (s.modCh c f).resetAt = s.resetAt := rfl
@[simp] theorem State.modCh_pairs (s : State) (c : ChannelId) (f : Channel → Channel) :
    (s.modCh c f).pairs = s.pairs := rfl
@[simp] theorem State.modCh_engine (s : State) (c : ChannelId) (f : Channel → Channel) :
    (s.modCh c f).engine = s.engine := rfl
@[simp] theorem State.modCh_bus (s : State) (c : ChannelId) (f : Channel → Channel) : (s.modCh c f).bus = s.bus := rfl
@[simp] theorem State.modCh_inputs (s : State) (c : ChannelId) (f : Channel → Channel) :
    (s.modCh c f).inputs = s.inputs := rfl
@[simp] theorem State.modCh_inputsSampledAt (s : State) (c : ChannelId) (f : Channel → Channel) :
    (s.modCh c f).inputsSampledAt = s.inputsSampledAt := rfl
@[simp] theorem State.modCh_link (s : State) (c : ChannelId) (f : Channel → Channel) :
    (s.modCh c f).link = s.link := rfl
@[simp] theorem State.modCh_commands (s : State) (c : ChannelId) (f : Channel → Channel) :
    (s.modCh c f).commands = s.commands := rfl
@[simp] theorem State.modCh_resetAwaited (s : State) (c : ChannelId) (f : Channel → Channel) :
    (s.modCh c f).resetAwaited = s.resetAwaited := rfl
@[simp] theorem State.modCh_report (s : State) (c : ChannelId) (f : Channel → Channel) :
    (s.modCh c f).report = s.report := rfl

/-! ## Writing a pair -/

@[simp] theorem State.setPair_pending (s : State) (p : PairId) (x : Pair) : (s.setPair p x).pending = s.pending := rfl
@[simp] theorem State.setPair_now (s : State) (p : PairId) (x : Pair) : (s.setPair p x).now = s.now := rfl
@[simp] theorem State.setPair_free (s : State) (p : PairId) (x : Pair) : (s.setPair p x).free = s.free := rfl
@[simp] theorem State.setPair_resetHeld (s : State) (p : PairId) (x : Pair) :
    (s.setPair p x).resetHeld = s.resetHeld := rfl
@[simp] theorem State.setPair_resetCause (s : State) (p : PairId) (x : Pair) :
    (s.setPair p x).resetCause = s.resetCause := rfl
@[simp] theorem State.setPair_resetAt (s : State) (p : PairId) (x : Pair) : (s.setPair p x).resetAt = s.resetAt := rfl
@[simp] theorem State.setPair_channels (s : State) (p : PairId) (x : Pair) :
    (s.setPair p x).channels = s.channels := rfl
@[simp] theorem State.setPair_engine (s : State) (p : PairId) (x : Pair) : (s.setPair p x).engine = s.engine := rfl
@[simp] theorem State.setPair_bus (s : State) (p : PairId) (x : Pair) : (s.setPair p x).bus = s.bus := rfl
@[simp] theorem State.setPair_inputs (s : State) (p : PairId) (x : Pair) : (s.setPair p x).inputs = s.inputs := rfl
@[simp] theorem State.setPair_inputsSampledAt (s : State) (p : PairId) (x : Pair) :
    (s.setPair p x).inputsSampledAt = s.inputsSampledAt := rfl
@[simp] theorem State.setPair_link (s : State) (p : PairId) (x : Pair) : (s.setPair p x).link = s.link := rfl
@[simp] theorem State.setPair_commands (s : State) (p : PairId) (x : Pair) :
    (s.setPair p x).commands = s.commands := rfl
@[simp] theorem State.setPair_resetAwaited (s : State) (p : PairId) (x : Pair) :
    (s.setPair p x).resetAwaited = s.resetAwaited := rfl
@[simp] theorem State.setPair_report (s : State) (p : PairId) (x : Pair) : (s.setPair p x).report = s.report := rfl

/-! ## Writing an input -/

@[simp] theorem State.setInput_pending (s : State) (i : InputId) (x : Input) :
    (s.setInput i x).pending = s.pending := rfl
@[simp] theorem State.setInput_now (s : State) (i : InputId) (x : Input) : (s.setInput i x).now = s.now := rfl
@[simp] theorem State.setInput_free (s : State) (i : InputId) (x : Input) : (s.setInput i x).free = s.free := rfl
@[simp] theorem State.setInput_resetHeld (s : State) (i : InputId) (x : Input) :
    (s.setInput i x).resetHeld = s.resetHeld := rfl
@[simp] theorem State.setInput_resetCause (s : State) (i : InputId) (x : Input) :
    (s.setInput i x).resetCause = s.resetCause := rfl
@[simp] theorem State.setInput_resetAt (s : State) (i : InputId) (x : Input) :
    (s.setInput i x).resetAt = s.resetAt := rfl
@[simp] theorem State.setInput_channels (s : State) (i : InputId) (x : Input) :
    (s.setInput i x).channels = s.channels := rfl
@[simp] theorem State.setInput_pairs (s : State) (i : InputId) (x : Input) : (s.setInput i x).pairs = s.pairs := rfl
@[simp] theorem State.setInput_engine (s : State) (i : InputId) (x : Input) :
    (s.setInput i x).engine = s.engine := rfl
@[simp] theorem State.setInput_bus (s : State) (i : InputId) (x : Input) : (s.setInput i x).bus = s.bus := rfl
@[simp] theorem State.setInput_inputsSampledAt (s : State) (i : InputId) (x : Input) :
    (s.setInput i x).inputsSampledAt = s.inputsSampledAt := rfl
@[simp] theorem State.setInput_link (s : State) (i : InputId) (x : Input) : (s.setInput i x).link = s.link := rfl
@[simp] theorem State.setInput_commands (s : State) (i : InputId) (x : Input) :
    (s.setInput i x).commands = s.commands := rfl
@[simp] theorem State.setInput_resetAwaited (s : State) (i : InputId) (x : Input) :
    (s.setInput i x).resetAwaited = s.resetAwaited := rfl
@[simp] theorem State.setInput_report (s : State) (i : InputId) (x : Input) :
    (s.setInput i x).report = s.report := rfl

/-! ## Reaching a moment -/

@[simp] theorem State.reach_pending (s : State) (moment : Nat) : (s.reach moment).pending = s.pending := rfl
@[simp] theorem State.reach_free (s : State) (moment : Nat) : (s.reach moment).free = s.free := rfl
@[simp] theorem State.reach_resetHeld (s : State) (moment : Nat) : (s.reach moment).resetHeld = s.resetHeld := rfl
@[simp] theorem State.reach_resetCause (s : State) (moment : Nat) : (s.reach moment).resetCause = s.resetCause := rfl
@[simp] theorem State.reach_resetAt (s : State) (moment : Nat) : (s.reach moment).resetAt = s.resetAt := rfl
@[simp] theorem State.reach_channels (s : State) (moment : Nat) : (s.reach moment).channels = s.channels := rfl
@[simp] theorem State.reach_pairs (s : State) (moment : Nat) : (s.reach moment).pairs = s.pairs := rfl
@[simp] theorem State.reach_engine (s : State) (moment : Nat) : (s.reach moment).engine = s.engine := rfl
@[simp] theorem State.reach_bus (s : State) (moment : Nat) : (s.reach moment).bus = s.bus := rfl
@[simp] theorem State.reach_inputs (s : State) (moment : Nat) : (s.reach moment).inputs = s.inputs := rfl
@[simp] theorem State.reach_inputsSampledAt (s : State) (moment : Nat) :
    (s.reach moment).inputsSampledAt = s.inputsSampledAt := rfl
@[simp] theorem State.reach_link (s : State) (moment : Nat) : (s.reach moment).link = s.link := rfl
@[simp] theorem State.reach_commands (s : State) (moment : Nat) : (s.reach moment).commands = s.commands := rfl
@[simp] theorem State.reach_resetAwaited (s : State) (moment : Nat) :
    (s.reach moment).resetAwaited = s.resetAwaited := rfl
@[simp] theorem State.reach_report (s : State) (moment : Nat) : (s.reach moment).report = s.report := rfl

/-! ## Changing a fault record -/

@[simp] theorem State.modRecord_pending (s : State) (c : ChannelId) (f : FaultRecord → FaultRecord) :
    (s.modRecord c f).pending = s.pending := rfl
@[simp] theorem State.modRecord_now (s : State) (c : ChannelId) (f : FaultRecord → FaultRecord) :
    (s.modRecord c f).now = s.now := rfl
@[simp] theorem State.modRecord_free (s : State) (c : ChannelId) (f : FaultRecord → FaultRecord) :
    (s.modRecord c f).free = s.free := rfl
@[simp] theorem State.modRecord_resetHeld (s : State) (c : ChannelId) (f : FaultRecord → FaultRecord) :
    (s.modRecord c f).resetHeld = s.resetHeld := rfl
@[simp] theorem State.modRecord_resetCause (s : State) (c : ChannelId) (f : FaultRecord → FaultRecord) :
    (s.modRecord c f).resetCause = s.resetCause := rfl
@[simp] theorem State.modRecord_resetAt (s : State) (c : ChannelId) (f : FaultRecord → FaultRecord) :
    (s.modRecord c f).resetAt = s.resetAt := rfl
@[simp] theorem State.modRecord_pairs (s : State) (c : ChannelId) (f : FaultRecord → FaultRecord) :
    (s.modRecord c f).pairs = s.pairs := rfl
@[simp] theorem State.modRecord_engine (s : State) (c : ChannelId) (f : FaultRecord → FaultRecord) :
    (s.modRecord c f).engine = s.engine := rfl
@[simp] theorem State.modRecord_bus (s : State) (c : ChannelId) (f : FaultRecord → FaultRecord) :
    (s.modRecord c f).bus = s.bus := rfl
@[simp] theorem State.modRecord_inputs (s : State) (c : ChannelId) (f : FaultRecord → FaultRecord) :
    (s.modRecord c f).inputs = s.inputs := rfl
@[simp] theorem State.modRecord_inputsSampledAt (s : State) (c : ChannelId) (f : FaultRecord → FaultRecord) :
    (s.modRecord c f).inputsSampledAt = s.inputsSampledAt := rfl
@[simp] theorem State.modRecord_link (s : State) (c : ChannelId) (f : FaultRecord → FaultRecord) :
    (s.modRecord c f).link = s.link := rfl
@[simp] theorem State.modRecord_commands (s : State) (c : ChannelId) (f : FaultRecord → FaultRecord) :
    (s.modRecord c f).commands = s.commands := rfl
@[simp] theorem State.modRecord_resetAwaited (s : State) (c : ChannelId) (f : FaultRecord → FaultRecord) :
    (s.modRecord c f).resetAwaited = s.resetAwaited := rfl
@[simp] theorem State.modRecord_report (s : State) (c : ChannelId) (f : FaultRecord → FaultRecord) :
    (s.modRecord c f).report = s.report := rfl

/-! ## Changing the bus monitor -/

@[simp] theorem State.modBus_pending (s : State) (f : Bus → Bus) : (s.modBus f).pending = s.pending := rfl
@[simp] theorem State.modBus_now (s : State) (f : Bus → Bus) : (s.modBus f).now = s.now := rfl
@[simp] theorem State.modBus_free (s : State) (f : Bus → Bus) : (s.modBus f).free = s.free := rfl
@[simp] theorem State.modBus_resetHeld (s : State) (f : Bus → Bus) : (s.modBus f).resetHeld = s.resetHeld := rfl
@[simp] theorem State.modBus_resetCause (s : State) (f : Bus → Bus) : (s.modBus f).resetCause = s.resetCause := rfl
@[simp] theorem State.modBus_resetAt (s : State) (f : Bus → Bus) : (s.modBus f).resetAt = s.resetAt := rfl
@[simp] theorem State.modBus_channels (s : State) (f : Bus → Bus) : (s.modBus f).channels = s.channels := rfl
@[simp] theorem State.modBus_pairs (s : State) (f : Bus → Bus) : (s.modBus f).pairs = s.pairs := rfl
@[simp] theorem State.modBus_engine (s : State) (f : Bus → Bus) : (s.modBus f).engine = s.engine := rfl
@[simp] theorem State.modBus_inputs (s : State) (f : Bus → Bus) : (s.modBus f).inputs = s.inputs := rfl
@[simp] theorem State.modBus_inputsSampledAt (s : State) (f : Bus → Bus) :
    (s.modBus f).inputsSampledAt = s.inputsSampledAt := rfl
@[simp] theorem State.modBus_link (s : State) (f : Bus → Bus) : (s.modBus f).link = s.link := rfl
@[simp] theorem State.modBus_commands (s : State) (f : Bus → Bus) : (s.modBus f).commands = s.commands := rfl
@[simp] theorem State.modBus_resetAwaited (s : State) (f : Bus → Bus) :
    (s.modBus f).resetAwaited = s.resetAwaited := rfl
@[simp] theorem State.modBus_report (s : State) (f : Bus → Bus) : (s.modBus f).report = s.report := rfl

/-! ## Counting on the link -/

@[simp] theorem State.count_pending (s : State) (f : LinkCounts → LinkCounts) : (s.count f).pending = s.pending := rfl
@[simp] theorem State.count_now (s : State) (f : LinkCounts → LinkCounts) : (s.count f).now = s.now := rfl
@[simp] theorem State.count_free (s : State) (f : LinkCounts → LinkCounts) : (s.count f).free = s.free := rfl
@[simp] theorem State.count_resetHeld (s : State) (f : LinkCounts → LinkCounts) :
    (s.count f).resetHeld = s.resetHeld := rfl
@[simp] theorem State.count_resetCause (s : State) (f : LinkCounts → LinkCounts) :
    (s.count f).resetCause = s.resetCause := rfl
@[simp] theorem State.count_resetAt (s : State) (f : LinkCounts → LinkCounts) : (s.count f).resetAt = s.resetAt := rfl
@[simp] theorem State.count_channels (s : State) (f : LinkCounts → LinkCounts) :
    (s.count f).channels = s.channels := rfl
@[simp] theorem State.count_pairs (s : State) (f : LinkCounts → LinkCounts) : (s.count f).pairs = s.pairs := rfl
@[simp] theorem State.count_engine (s : State) (f : LinkCounts → LinkCounts) : (s.count f).engine = s.engine := rfl
@[simp] theorem State.count_bus (s : State) (f : LinkCounts → LinkCounts) : (s.count f).bus = s.bus := rfl
@[simp] theorem State.count_inputs (s : State) (f : LinkCounts → LinkCounts) : (s.count f).inputs = s.inputs := rfl
@[simp] theorem State.count_inputsSampledAt (s : State) (f : LinkCounts → LinkCounts) :
    (s.count f).inputsSampledAt = s.inputsSampledAt := rfl
@[simp] theorem State.count_commands (s : State) (f : LinkCounts → LinkCounts) :
    (s.count f).commands = s.commands := rfl
@[simp] theorem State.count_resetAwaited (s : State) (f : LinkCounts → LinkCounts) :
    (s.count f).resetAwaited = s.resetAwaited := rfl
@[simp] theorem State.count_report (s : State) (f : LinkCounts → LinkCounts) : (s.count f).report = s.report := rfl

/-! ## Entering the transmit queue -/

@[simp] theorem State.enqueue_pending (s : State) (t : Telegram) : (s.enqueue t).pending = s.pending := rfl
@[simp] theorem State.enqueue_now (s : State) (t : Telegram) : (s.enqueue t).now = s.now := rfl
@[simp] theorem State.enqueue_free (s : State) (t : Telegram) : (s.enqueue t).free = s.free := rfl
@[simp] theorem State.enqueue_resetHeld (s : State) (t : Telegram) : (s.enqueue t).resetHeld = s.resetHeld := rfl
@[simp] theorem State.enqueue_resetCause (s : State) (t : Telegram) : (s.enqueue t).resetCause = s.resetCause := rfl
@[simp] theorem State.enqueue_resetAt (s : State) (t : Telegram) : (s.enqueue t).resetAt = s.resetAt := rfl
@[simp] theorem State.enqueue_channels (s : State) (t : Telegram) : (s.enqueue t).channels = s.channels := rfl
@[simp] theorem State.enqueue_pairs (s : State) (t : Telegram) : (s.enqueue t).pairs = s.pairs := rfl
@[simp] theorem State.enqueue_engine (s : State) (t : Telegram) : (s.enqueue t).engine = s.engine := rfl
@[simp] theorem State.enqueue_bus (s : State) (t : Telegram) : (s.enqueue t).bus = s.bus := rfl
@[simp] theorem State.enqueue_inputs (s : State) (t : Telegram) : (s.enqueue t).inputs = s.inputs := rfl
@[simp] theorem State.enqueue_inputsSampledAt (s : State) (t : Telegram) :
    (s.enqueue t).inputsSampledAt = s.inputsSampledAt := rfl
@[simp] theorem State.enqueue_link (s : State) (t : Telegram) : (s.enqueue t).link = s.link := rfl
@[simp] theorem State.enqueue_commands (s : State) (t : Telegram) : (s.enqueue t).commands = s.commands := rfl
@[simp] theorem State.enqueue_resetAwaited (s : State) (t : Telegram) :
    (s.enqueue t).resetAwaited = s.resetAwaited := rfl

@[simp] theorem State.reach_now (s : State) (moment : Nat) : (s.reach moment).now = max s.now moment := rfl

@[simp] theorem State.modBus_bus (s : State) (f : Bus → Bus) : (s.modBus f).bus = f s.bus := rfl

@[simp] theorem State.count_counts (s : State) (f : LinkCounts → LinkCounts) :
    (s.count f).link.counts = f s.link.counts := rfl

@[simp] theorem State.enqueue_report (s : State) (t : Telegram) : (s.enqueue t).report = s.report.enter s.now t := rfl

/-! ## Reading after writing -/

@[simp] theorem State.ch_setCh (s : State) (c d : ChannelId) (x : Channel) :
    (s.setCh c x).ch d = if d = c then x else s.ch d := by
  simp only [State.ch, State.setCh, Fin.getElem_fin, Vector.getElem_set, Fin.ext_iff, eq_comm]

@[simp] theorem State.ch_modCh (s : State) (c d : ChannelId) (f : Channel → Channel) :
    (s.modCh c f).ch d = if d = c then f (s.ch c) else s.ch d := State.ch_setCh s c d (f (s.ch c))

@[simp] theorem State.pair_setPair (s : State) (p q : PairId) (x : Pair) :
    (s.setPair p x).pair q = if q = p then x else s.pair q := by
  simp only [State.pair, State.setPair, Fin.getElem_fin, Vector.getElem_set, Fin.ext_iff, eq_comm]

@[simp] theorem State.input_setInput (s : State) (i j : InputId) (x : Input) :
    (s.setInput i x).input j = if j = i then x else s.input j := by
  simp only [State.input, State.setInput, Fin.getElem_fin, Vector.getElem_set, Fin.ext_iff, eq_comm]

/-- Writing what is there already changes nothing. -/
@[simp] theorem State.setCh_ch (s : State) (c : ChannelId) : s.setCh c (s.ch c) = s := by
  simp [State.setCh, State.ch]

/-- Of two writes of one channel the later counts. -/
@[simp] theorem State.setCh_setCh (s : State) (c : ChannelId) (x y : Channel) :
    (s.setCh c x).setCh c y = s.setCh c y := by
  simp [State.setCh]

/-- Two states whose channels read alike and whose other fields agree are one state. -/
theorem State.ext_channels {s t : State} (h : ∀ c, s.ch c = t.ch c) (k : { s with channels := t.channels } = t) :
    s = t := by
  have e : s.channels = t.channels := by
    apply Vector.ext
    intro i hi
    exact h ⟨i, hi⟩
  rw [← k, ← e]

/-! ## What does not touch a channel, a pair or an input -/

@[simp] theorem State.ch_setPair (s : State) (p : PairId) (x : Pair) (c : ChannelId) :
    (s.setPair p x).ch c = s.ch c := rfl
@[simp] theorem State.ch_setInput (s : State) (i : InputId) (x : Input) (c : ChannelId) :
    (s.setInput i x).ch c = s.ch c := rfl
@[simp] theorem State.ch_reach (s : State) (moment : Nat) (c : ChannelId) : (s.reach moment).ch c = s.ch c := rfl
@[simp] theorem State.ch_modBus (s : State) (f : Bus → Bus) (c : ChannelId) : (s.modBus f).ch c = s.ch c := rfl
@[simp] theorem State.ch_count (s : State) (f : LinkCounts → LinkCounts) (c : ChannelId) :
    (s.count f).ch c = s.ch c := rfl
@[simp] theorem State.ch_enqueue (s : State) (t : Telegram) (c : ChannelId) : (s.enqueue t).ch c = s.ch c := rfl
@[simp] theorem State.pair_setCh (s : State) (c : ChannelId) (x : Channel) (q : PairId) :
    (s.setCh c x).pair q = s.pair q := rfl
@[simp] theorem State.isCoupled_setCh (s : State) (c : ChannelId) (x : Channel) (d : ChannelId) :
    (s.setCh c x).isCoupled d = s.isCoupled d := rfl
@[simp] theorem State.isFollower_setCh (s : State) (c : ChannelId) (x : Channel) (d : ChannelId) :
    (s.setCh c x).isFollower d = s.isFollower d := rfl
@[simp] theorem State.group_setCh (s : State) (c : ChannelId) (x : Channel) (d : ChannelId) :
    (s.setCh c x).group d = s.group d := rfl
@[simp] theorem State.leader_setCh (s : State) (c : ChannelId) (x : Channel) (d : ChannelId) :
    (s.setCh c x).leader d = s.leader d := rfl
@[simp] theorem State.pair_modCh (s : State) (c : ChannelId) (f : Channel → Channel) (q : PairId) :
    (s.modCh c f).pair q = s.pair q := rfl
@[simp] theorem State.isCoupled_modCh (s : State) (c : ChannelId) (f : Channel → Channel) (d : ChannelId) :
    (s.modCh c f).isCoupled d = s.isCoupled d := rfl
@[simp] theorem State.isFollower_modCh (s : State) (c : ChannelId) (f : Channel → Channel) (d : ChannelId) :
    (s.modCh c f).isFollower d = s.isFollower d := rfl
@[simp] theorem State.group_modCh (s : State) (c : ChannelId) (f : Channel → Channel) (d : ChannelId) :
    (s.modCh c f).group d = s.group d := rfl
@[simp] theorem State.leader_modCh (s : State) (c : ChannelId) (f : Channel → Channel) (d : ChannelId) :
    (s.modCh c f).leader d = s.leader d := rfl
@[simp] theorem State.pair_modRecord (s : State) (c : ChannelId) (f : FaultRecord → FaultRecord) (q : PairId) :
    (s.modRecord c f).pair q = s.pair q := rfl
@[simp] theorem State.isCoupled_modRecord (s : State) (c : ChannelId) (f : FaultRecord → FaultRecord)
    (d : ChannelId) :
    (s.modRecord c f).isCoupled d = s.isCoupled d := rfl
@[simp] theorem State.isFollower_modRecord (s : State) (c : ChannelId) (f : FaultRecord → FaultRecord)
    (d : ChannelId) :
    (s.modRecord c f).isFollower d = s.isFollower d := rfl
@[simp] theorem State.group_modRecord (s : State) (c : ChannelId) (f : FaultRecord → FaultRecord)
    (d : ChannelId) :
    (s.modRecord c f).group d = s.group d := rfl
@[simp] theorem State.leader_modRecord (s : State) (c : ChannelId) (f : FaultRecord → FaultRecord)
    (d : ChannelId) :
    (s.modRecord c f).leader d = s.leader d := rfl
@[simp] theorem State.pair_setInput (s : State) (i : InputId) (x : Input) (q : PairId) :
    (s.setInput i x).pair q = s.pair q := rfl
@[simp] theorem State.isCoupled_setInput (s : State) (i : InputId) (x : Input) (d : ChannelId) :
    (s.setInput i x).isCoupled d = s.isCoupled d := rfl
@[simp] theorem State.isFollower_setInput (s : State) (i : InputId) (x : Input) (d : ChannelId) :
    (s.setInput i x).isFollower d = s.isFollower d := rfl
@[simp] theorem State.group_setInput (s : State) (i : InputId) (x : Input) (d : ChannelId) :
    (s.setInput i x).group d = s.group d := rfl
@[simp] theorem State.leader_setInput (s : State) (i : InputId) (x : Input) (d : ChannelId) :
    (s.setInput i x).leader d = s.leader d := rfl
@[simp] theorem State.pair_reach (s : State) (moment : Nat) (q : PairId) : (s.reach moment).pair q = s.pair q := rfl
@[simp] theorem State.isCoupled_reach (s : State) (moment : Nat) (d : ChannelId) :
    (s.reach moment).isCoupled d = s.isCoupled d := rfl
@[simp] theorem State.isFollower_reach (s : State) (moment : Nat) (d : ChannelId) :
    (s.reach moment).isFollower d = s.isFollower d := rfl
@[simp] theorem State.group_reach (s : State) (moment : Nat) (d : ChannelId) :
    (s.reach moment).group d = s.group d := rfl
@[simp] theorem State.leader_reach (s : State) (moment : Nat) (d : ChannelId) :
    (s.reach moment).leader d = s.leader d := rfl
@[simp] theorem State.pair_enqueue (s : State) (t : Telegram) (q : PairId) : (s.enqueue t).pair q = s.pair q := rfl
@[simp] theorem State.isCoupled_enqueue (s : State) (t : Telegram) (d : ChannelId) :
    (s.enqueue t).isCoupled d = s.isCoupled d := rfl
@[simp] theorem State.isFollower_enqueue (s : State) (t : Telegram) (d : ChannelId) :
    (s.enqueue t).isFollower d = s.isFollower d := rfl
@[simp] theorem State.group_enqueue (s : State) (t : Telegram) (d : ChannelId) :
    (s.enqueue t).group d = s.group d := rfl
@[simp] theorem State.leader_enqueue (s : State) (t : Telegram) (d : ChannelId) :
    (s.enqueue t).leader d = s.leader d := rfl
@[simp] theorem State.input_setCh (s : State) (c : ChannelId) (x : Channel) (i : InputId) :
    (s.setCh c x).input i = s.input i := rfl
@[simp] theorem State.input_modCh (s : State) (c : ChannelId) (f : Channel → Channel) (i : InputId) :
    (s.modCh c f).input i = s.input i := rfl
@[simp] theorem State.input_modRecord (s : State) (c : ChannelId) (f : FaultRecord → FaultRecord) (i : InputId) :
    (s.modRecord c f).input i = s.input i := rfl
@[simp] theorem State.input_setPair (s : State) (p : PairId) (x : Pair) (i : InputId) :
    (s.setPair p x).input i = s.input i := rfl
@[simp] theorem State.input_reach (s : State) (moment : Nat) (i : InputId) :
    (s.reach moment).input i = s.input i := rfl
@[simp] theorem State.input_enqueue (s : State) (t : Telegram) (i : InputId) :
    (s.enqueue t).input i = s.input i := rfl

end Sys2Proof.Machine
end

