-- ==== Sys2Proof/Laws/Ops.lean ====
section
/-! SUPPORT. What the shared operations of Ops, Controller and FaultUnit can do, said once each: how the transmit queue
grows, and what the controller and the fault unit never touch. -/

namespace Sys2Proof.Machine

/-! ## Numbers -/

/-- A clamped value lies in its range. -/
theorem clampTo_mem (lo hi x : Int) (h : lo ≤ hi) : lo ≤ clampTo lo hi x ∧ clampTo lo hi x ≤ hi := by
  unfold clampTo
  split
  · omega
  · split <;> omega

/-- Clamping is the minimum and the maximum with the bounds. -/
theorem clampTo_eq (lo hi x : Int) (h : lo ≤ hi) : clampTo lo hi x = max lo (min hi x) := by
  unfold clampTo
  split
  · omega
  · split <;> omega

/-- A symmetric clamp keeps the magnitude at the bound. -/
theorem clampSym_natAbs (bound : Nat) (x : Int) : (clampSym bound x).natAbs ≤ bound := by
  have := clampTo_mem (-(bound : Int)) bound x (by omega)
  unfold clampSym
  omega

/-- A half-up quotient is the only number with these two bounds. -/
theorem halfUp_bounds (x : Int) :
    256 * halfUp 8 x ≤ x + 128 ∧ x + 128 < 256 * (halfUp 8 x + 1) := by
  have h : halfUp 8 x = (x + 128) / 256 := rfl
  omega

/-- A saturating count is at most 65535. -/
theorem satInc_le (n : Nat) : satInc n ≤ 65535 := Nat.min_le_left _ _

/-- A ramp value moves toward 0 by the slope, and no further. -/
theorem stepToward_natAbs (slope : Nat) (v : Int) : (stepToward slope v).natAbs = v.natAbs - slope := by
  unfold stepToward
  split
  · simp only [Int.natAbs_zero]
    omega
  · split <;> omega

/-! ## The transmit queue -/

/-- A telegram that enters takes one entry. -/
theorem Report.fill_enter (r : Report) (now : Nat) (t : Telegram) : (r.enter now t).fill = r.fill + 1 := by
  unfold Report.enter Report.fill
  split
  · rename_i h
    simp [h]
  · rename_i w h
    simp [h]

/-- A telegram enters behind those already held. -/
theorem Report.telegrams_enter (r : Report) (now : Nat) (t : Telegram) (h : r.sending = none → r.waiting = []) :
    (r.enter now t).telegrams = r.telegrams ++ [t] := by
  unfold Report.enter Report.telegrams
  split
  · rename_i e
    simp [e, h e, Telegram.begin]
  · rename_i w e
    simp [e]

/-- Entering changes neither the enables nor the events-lost flag. -/
@[simp] theorem Report.enables_enter (r : Report) (now : Nat) (t : Telegram) : (r.enter now t).enables = r.enables := by
  unfold Report.enter
  split <;> rfl

@[simp] theorem Report.eventsLost_enter (r : Report) (now : Nat) (t : Telegram) :
    (r.enter now t).eventsLost = r.eventsLost := by
  unfold Report.enter
  split <;> rfl

/-- After an entry the line is busy. -/
theorem Report.sending_enter (r : Report) (now : Nat) (t : Telegram) : (r.enter now t).sending.isSome = true := by
  unfold Report.enter
  split
  · rfl
  · rename_i w h
    simp [h]

/-- An entry into a queue with room keeps the queue sound. -/
theorem Report.sound_enter (r : Report) (now : Nat) (t : Telegram) (h : r.fill < 32) : (r.enter now t).Sound := by
  refine ⟨by rw [Report.fill_enter]; omega, fun e => ?_⟩
  have := Report.sending_enter r now t
  rw [e] at this
  cases this

/-! ## What the controller and the fault unit leave alone

Their operations change channels, what the engine notes of its channel, the free values used up, and what is sent. -/

/-- `t` differs from `s` at most in the channels, the computation in progress, the free values and the transmit
queue. -/
def State.Near (s t : State) : Prop :=
  t = { s with free := t.free, channels := t.channels, engine := t.engine, report := t.report }

theorem State.Near.refl (s : State) : s.Near s := rfl

theorem State.Near.trans {s t u : State} (h : s.Near t) (k : t.Near u) : s.Near u := by
  unfold State.Near at *
  rw [k, h]

theorem State.near_setCh (s : State) (c : ChannelId) (x : Channel) : s.Near (s.setCh c x) := rfl

theorem State.near_modCh (s : State) (c : ChannelId) (f : Channel → Channel) : s.Near (s.modCh c f) := rfl

theorem State.near_modRecord (s : State) (c : ChannelId) (f : FaultRecord → FaultRecord) : s.Near (s.modRecord c f) :=
  rfl

theorem State.near_emit (s : State) (e : Event) : s.Near (s.emit e) := by
  unfold State.emit
  split
  · split <;> rfl
  · rfl

/-- An event changes no channel. -/
@[simp] theorem State.ch_emit (s : State) (e : Event) (c : ChannelId) : (s.emit e).ch c = s.ch c := by
  unfold State.emit
  split
  · split <;> rfl
  · rfl

/-- An event leaves the computation in progress. -/
@[simp] theorem State.engine_emit (s : State) (e : Event) : (s.emit e).engine = s.engine := by
  unfold State.emit
  split
  · split <;> rfl
  · rfl

theorem State.near_emitState (s : State) (c : ChannelId) (old : ChState) : s.Near (s.emitState c old) :=
  s.near_emit _

@[simp] theorem State.ch_emitState (s : State) (c : ChannelId) (old : ChState) (d : ChannelId) :
    (s.emitState c old).ch d = s.ch d := s.ch_emit _ d

theorem State.near_leaveComputing (s : State) (c : ChannelId) : s.Near (s.leaveComputing c) := rfl

theorem State.near_moveTo (s : State) (c : ChannelId) (new : ChState) : s.Near (s.moveTo c new) := by
  unfold State.moveTo
  dsimp only
  split <;> split <;> rfl

/-- The coupling is the same in near states. -/
theorem State.Near.pair {s t : State} (h : s.Near t) (p : PairId) : t.pair p = s.pair p := by
  rw [h]
  rfl

theorem State.Near.isCoupled {s t : State} (h : s.Near t) (c : ChannelId) : t.isCoupled c = s.isCoupled c := by
  rw [h]
  rfl

theorem State.Near.group {s t : State} (h : s.Near t) (c : ChannelId) : t.group c = s.group c := by
  rw [h]
  rfl

theorem State.Near.now {s t : State} (h : s.Near t) : t.now = s.now := by rw [h]

theorem State.Near.bus {s t : State} (h : s.Near t) : t.bus = s.bus := by rw [h]

theorem State.Near.link {s t : State} (h : s.Near t) : t.link = s.link := by rw [h]

theorem State.Near.inputs {s t : State} (h : s.Near t) : t.inputs = s.inputs := by rw [h]

theorem State.Near.pending {s t : State} (h : s.Near t) : t.pending = s.pending := by rw [h]

theorem State.Near.commands {s t : State} (h : s.Near t) : t.commands = s.commands := by rw [h]

theorem State.near_enterDisabled (s : State) (c : ChannelId) (o : OpOutcome) : s.Near (s.enterDisabled c o) :=
  ((s.near_moveTo c .disabled).trans (State.near_modCh _ c _)).trans (State.near_emitState _ c _)

theorem State.near_leaveFaultedIfEmpty (s : State) (c : ChannelId) : s.Near (s.leaveFaultedIfEmpty c) := by
  unfold State.leaveFaultedIfEmpty
  split
  · exact s.near_enterDisabled c _
  · exact State.Near.refl s

theorem State.near_enterFaulted (s : State) (c : ChannelId) : s.Near (s.enterFaulted c) := by
  unfold State.enterFaulted
  dsimp only
  split
  · exact State.Near.refl s
  · exact ((s.near_moveTo c .faulted).trans (State.near_modCh _ c _)).trans (State.near_emitState _ c _)

theorem State.near_completeReaction (s : State) (c : ChannelId) : s.Near (s.completeReaction c) :=
  (s.near_enterFaulted c).trans (State.near_leaveFaultedIfEmpty _ c)

theorem State.near_startRamp (s : State) (c : ChannelId) (k : Stop) (o : Operation) : s.Near (s.startRamp c k o) :=
  ((s.near_moveTo c _).trans (State.near_modCh _ c _)).trans (State.near_emitState _ c _)

theorem State.near_startBrake (s : State) (c : ChannelId) : s.Near (s.startBrake c) :=
  ((s.near_moveTo c _).trans (State.near_modCh _ c _)).trans (State.near_emitState _ c _)

theorem State.near_takeOverRamp (s : State) (c : ChannelId) : s.Near (s.takeOverRamp c) :=
  ((s.near_moveTo c _).trans (State.near_modCh _ c _)).trans (State.near_emitState _ c _)

theorem State.near_abortOp (s : State) (c : ChannelId) : s.Near (s.abortOp c) := s.near_modCh c _

theorem State.near_enterCharging (s : State) (c : ChannelId) : s.Near (s.enterCharging c) :=
  ((s.near_moveTo c _).trans (State.near_modCh _ c _)).trans (State.near_emitState _ c _)

/-- A reaction, in whatever state it is commanded. -/
theorem State.near_react (s : State) (c : ChannelId) (r : Reaction) : s.Near (s.react c r) := by
  unfold State.react
  split
  · exact State.Near.refl s
  · exact s.near_completeReaction c
  · exact ((s.near_modCh c _).trans (State.near_abortOp _ c)).trans (State.near_completeReaction _ c)
  · exact (s.near_abortOp c).trans (State.near_startBrake _ c)
  · exact (s.near_abortOp c).trans (State.near_completeReaction _ c)
  · exact s.near_completeReaction c
  · exact s.near_startBrake c
  · exact s.near_startRamp c _ _
  · exact s.near_startBrake c
  · exact s.near_completeReaction c
  · exact (s.near_abortOp c).trans (State.near_completeReaction _ c)
  · exact State.Near.refl s
  · exact (s.near_abortOp c).trans (State.near_completeReaction _ c)
  · exact (s.near_abortOp c).trans (State.near_startBrake _ c)
  · exact s.near_takeOverRamp c
  · exact State.Near.refl s
  · exact s.near_completeReaction c

theorem State.near_promote (s : State) (c : ChannelId) : s.Near (s.promote c) := by
  unfold State.promote
  split
  · exact (s.near_modRecord c _).trans (State.near_react _ c _)
  · exact State.Near.refl s

theorem State.near_removeEntry (s : State) (c : ChannelId) (e : Entry) (m : Manner) : s.Near (s.removeEntry c e m) :=
  (s.near_modRecord c _).trans (State.near_emit _ _)

theorem State.near_afterRemoval (s : State) (c : ChannelId) : s.Near (s.afterRemoval c) :=
  (s.near_promote c).trans (State.near_leaveFaultedIfEmpty _ c)

theorem State.near_settleFrom (ended : State → ChannelId → Entry → Bool) (c : ChannelId) (fuel : Nat) (s : State) :
    s.Near (s.settleFrom ended c fuel) := by
  induction fuel generalizing s with
  | zero => exact State.Near.refl s
  | succ n ih =>
    unfold State.settleFrom
    split
    · exact State.Near.refl s
    · exact ((s.near_removeEntry _ _ _).trans (State.near_afterRemoval _ _)).trans (ih _)

theorem State.near_settleBy (s : State) (ended : State → ChannelId → Entry → Bool) (c : ChannelId) :
    s.Near (s.settleBy ended c) := State.near_settleFrom ended c _ s

theorem State.near_settle (s : State) (c : ChannelId) : s.Near (s.settle c) := s.near_settleBy _ c

theorem State.near_markSeen (s : State) (c : ChannelId) (e : Entry) : s.Near (s.markSeen c e) := by
  unfold State.markSeen
  split
  · exact s.near_modRecord c _
  · exact State.Near.refl s

theorem State.near_enterRecord (s : State) (c : ChannelId) (e : Entry) : s.Near (s.enterRecord c e) := by
  unfold State.enterRecord
  dsimp only
  split
  · exact ((s.near_modRecord c _).trans (State.near_emit _ _)).trans (State.near_react _ c _)
  · exact (s.near_modRecord c _).trans (State.near_emit _ _)

theorem State.near_raiseOne (s : State) (c : ChannelId) (e : Entry) : s.Near (s.raiseOne c e) := by
  unfold State.raiseOne
  dsimp only
  split
  · exact s.near_markSeen c e
  · exact (s.near_markSeen c e).trans (State.near_emit _ _)
  · exact (s.near_markSeen c e).trans (State.near_enterRecord _ c e)

/-- A raise with all that follows from it. -/
theorem State.near_raise (s : State) (c : ChannelId) (x : Source) : s.Near (s.raise c x) := by
  unfold State.raise
  dsimp only
  split
  · exact ((s.near_raiseOne c _).trans (State.near_raiseOne _ _ _)).trans (State.near_settle _ c)
  · exact (s.near_raiseOne c _).trans (State.near_settle _ c)

/-- Doing near things for each channel of a list stays near. -/
theorem State.near_forEach (cs : List ChannelId) (f : ChannelId → State → State) (h : ∀ c t, State.Near t (f c t))
    (s : State) : s.Near (s.forEach cs f) := by
  unfold State.forEach
  induction cs generalizing s with
  | nil => exact State.Near.refl s
  | cons c rest ih => exact (h c s).trans (ih (f c s))

theorem State.near_settleAll (s : State) : s.Near s.settleAll :=
  State.near_forEach allChannels State.settle (fun c t => t.near_settle c) s

theorem State.near_settleSample (s : State) : s.Near s.settleSample :=
  State.near_forEach allChannels _ (fun c t => t.near_settleBy _ c) s

theorem State.near_raiseOn (s : State) (cs : List ChannelId) (x : Source) : s.Near (s.raiseOn cs x) :=
  State.near_forEach cs _ (fun c t => t.near_raise c x) s

theorem State.near_beginCharging (s : State) (cs : List ChannelId) : s.Near (s.beginCharging cs) := by
  unfold State.beginCharging
  dsimp only
  have h := State.near_forEach cs State.enterCharging (fun c t => t.near_enterCharging c) s
  split
  · exact h.trans (State.near_raiseOn _ cs .dcUnder)
  · exact h

/-! ## Requests -/

/-- Every request is answered in a next state. -/
theorem execRequest_next (r : Request) (act : State → State) (s : State) :
    execRequest r act s = .next (s.live (State.serve r act)) := rfl

/-- While the reset line holds the part nothing happens. -/
theorem State.live_held (s : State) (f : State → State) (h : s.resetHeld = true) : s.live f = s := by
  simp [State.live, h]

theorem State.live_free (s : State) (f : State → State) (h : s.resetHeld = false) : s.live f = f s := by
  simp [State.live, h]

/-- A request that may not be executed waits. -/
theorem State.serve_waits (r : Request) (act : State → State) (s : State) (h : s.mayServe r = false) :
    s.serve r act = s := by
  simp [State.serve, h]

/-- A request that may be executed acts, and leaves the queue. -/
theorem State.serve_acts (r : Request) (act : State → State) (s : State) (h : s.mayServe r = true) :
    s.serve r act = (act s).dequeue r := by
  simp [State.serve, h]

end Sys2Proof.Machine
end

