-- ==== Sys2Proof/Laws/Channels.lean ====
section
/-! SUPPORT. Which channels the controller and the fault unit touch: the channel itself and the other of its pair. -/

namespace Sys2Proof.Machine

/-! ## Pairs -/

theorem mateOf_mateOf (c : ChannelId) : mateOf (mateOf c) = c := by revert c; decide

theorem pairOf_mateOf (c : ChannelId) : pairOf (mateOf c) = pairOf c := by revert c; decide

theorem pairOf_masterOf (p : PairId) : pairOf (masterOf p) = p := by revert p; decide

theorem pairOf_followerOf (p : PairId) : pairOf (followerOf p) = p := by revert p; decide

theorem masterOf_ne_followerOf (p : PairId) : masterOf p ≠ followerOf p := by revert p; decide

theorem eq_or_mate (c : ChannelId) :
    (masterOf (pairOf c) = c ∧ followerOf (pairOf c) = mateOf c) ∨
      (masterOf (pairOf c) = mateOf c ∧ followerOf (pairOf c) = c) := by
  revert c; decide

/-- The group of a channel holds the channel, and beside it at most the other of its pair. -/
theorem State.mem_group (s : State) (c g : ChannelId) (h : g ∈ s.group c) : g = c ∨ g = mateOf c := by
  unfold State.group at h
  split at h
  · rcases eq_or_mate c with ⟨a, b⟩ | ⟨a, b⟩ <;> simp [a, b] at h <;> rcases h with rfl | rfl <;> simp
  · simpa using Or.inl h

theorem State.self_mem_group (s : State) (c : ChannelId) : c ∈ s.group c := by
  unfold State.group
  split
  · rcases eq_or_mate c with ⟨a, b⟩ | ⟨a, b⟩ <;> simp [a, b]
  · simp

/-- A channel that is not coupled stands alone. -/
theorem State.group_alone (s : State) (c : ChannelId) (h : s.isCoupled c = false) : s.group c = [c] := by
  simp [State.group, h]

theorem State.leader_alone (s : State) (c : ChannelId) (h : s.isCoupled c = false) : s.leader c = c := by
  simp [State.leader, h]

theorem State.not_follower_alone (s : State) (c : ChannelId) (h : s.isCoupled c = false) : s.isFollower c = false := by
  simp [State.isFollower, h]

/-! ## Operations that act on a channel and its mate -/

/-- `t` agrees with `s` on every channel but `c` and the other of its pair. -/
def State.SameOutside (c : ChannelId) (s t : State) : Prop := ∀ d, d ≠ c → d ≠ mateOf c → t.ch d = s.ch d

theorem State.SameOutside.refl (c : ChannelId) (s : State) : s.SameOutside c s := fun _ _ _ => rfl

theorem State.SameOutside.trans {c : ChannelId} {s t u : State} (h : s.SameOutside c t) (k : t.SameOutside c u) :
    s.SameOutside c u :=
  fun d a b => (k d a b).trans (h d a b)

/-- What acts outside the mate's pair acts outside the channel's. -/
theorem State.SameOutside.mate {c : ChannelId} {s t : State} (h : s.SameOutside (mateOf c) t) : s.SameOutside c t :=
  fun d a b => h d b (by rw [mateOf_mateOf]; exact a)

theorem State.outside_modCh (c : ChannelId) (s : State) (f : Channel → Channel) : s.SameOutside c (s.modCh c f) :=
  fun d a _ => by simp [a]

theorem State.outside_emit (c : ChannelId) (s : State) (e : Event) : s.SameOutside c (s.emit e) :=
  fun d _ _ => s.ch_emit e d

theorem State.outside_leaveComputing (c : ChannelId) (s : State) : s.SameOutside c (s.leaveComputing c) :=
  s.outside_modCh c (fun x => { x with eng := { x.eng with slot := .empty, mark := none } })

theorem State.outside_moveTo (c : ChannelId) (s : State) (new : ChState) : s.SameOutside c (s.moveTo c new) := by
  unfold State.moveTo
  dsimp only
  have h : s.SameOutside c
      (if ((s.ch c).state.computes && !new.computes) = true then s.leaveComputing c else s) := by
    split
    · exact s.outside_leaveComputing c
    · exact State.SameOutside.refl c s
  generalize (if ((s.ch c).state.computes && !new.computes) = true then s.leaveComputing c else s) = s1 at h ⊢
  have k := h.trans (State.outside_modCh c s1 (fun x =>
    Channel.commandGate new.gateMode { x with state := new, timers := x.timers.leaving (s.ch c).state }))
  split
  · exact k.trans (State.SameOutside.mate (State.outside_modCh (mateOf c) _ _))
  · exact k

theorem State.outside_enterDisabled (c : ChannelId) (s : State) (o : OpOutcome) :
    s.SameOutside c (s.enterDisabled c o) :=
  ((s.outside_moveTo c .disabled).trans (State.outside_modCh c _ _)).trans (State.outside_emit c _ _)

theorem State.outside_leaveFaultedIfEmpty (c : ChannelId) (s : State) : s.SameOutside c (s.leaveFaultedIfEmpty c) := by
  unfold State.leaveFaultedIfEmpty
  split
  · exact s.outside_enterDisabled c _
  · exact State.SameOutside.refl c s

theorem State.outside_enterFaulted (c : ChannelId) (s : State) : s.SameOutside c (s.enterFaulted c) := by
  unfold State.enterFaulted
  dsimp only
  split
  · exact State.SameOutside.refl c s
  · exact ((s.outside_moveTo c .faulted).trans (State.outside_modCh c _ _)).trans (State.outside_emit c _ _)

theorem State.outside_completeReaction (c : ChannelId) (s : State) : s.SameOutside c (s.completeReaction c) :=
  (s.outside_enterFaulted c).trans (State.outside_leaveFaultedIfEmpty c _)

theorem State.outside_startRamp (c : ChannelId) (s : State) (k : Stop) (o : Operation) :
    s.SameOutside c (s.startRamp c k o) :=
  ((s.outside_moveTo c _).trans (State.outside_modCh c _ _)).trans (State.outside_emit c _ _)

theorem State.outside_startBrake (c : ChannelId) (s : State) : s.SameOutside c (s.startBrake c) :=
  ((s.outside_moveTo c _).trans (State.outside_modCh c _ _)).trans (State.outside_emit c _ _)

theorem State.outside_takeOverRamp (c : ChannelId) (s : State) : s.SameOutside c (s.takeOverRamp c) :=
  ((s.outside_moveTo c _).trans (State.outside_modCh c _ _)).trans (State.outside_emit c _ _)

theorem State.outside_abortOp (c : ChannelId) (s : State) : s.SameOutside c (s.abortOp c) := s.outside_modCh c _

theorem State.outside_enterCharging (c : ChannelId) (s : State) : s.SameOutside c (s.enterCharging c) :=
  ((s.outside_moveTo c _).trans (State.outside_modCh c _ _)).trans (State.outside_emit c _ _)

/-- A reaction, in whatever state it is commanded. -/
theorem State.outside_react (c : ChannelId) (s : State) (r : Reaction) : s.SameOutside c (s.react c r) := by
  unfold State.react
  split
  · exact State.SameOutside.refl c s
  · exact s.outside_completeReaction c
  · exact ((s.outside_modCh c _).trans (State.outside_abortOp c _)).trans (State.outside_completeReaction c _)
  · exact (s.outside_abortOp c).trans (State.outside_startBrake c _)
  · exact (s.outside_abortOp c).trans (State.outside_completeReaction c _)
  · exact s.outside_completeReaction c
  · exact s.outside_startBrake c
  · exact s.outside_startRamp c _ _
  · exact s.outside_startBrake c
  · exact s.outside_completeReaction c
  · exact (s.outside_abortOp c).trans (State.outside_completeReaction c _)
  · exact State.SameOutside.refl c s
  · exact (s.outside_abortOp c).trans (State.outside_completeReaction c _)
  · exact (s.outside_abortOp c).trans (State.outside_startBrake c _)
  · exact s.outside_takeOverRamp c
  · exact State.SameOutside.refl c s
  · exact s.outside_completeReaction c

theorem State.outside_modRecord (c : ChannelId) (s : State) (f : FaultRecord → FaultRecord) :
    s.SameOutside c (s.modRecord c f) :=
  s.outside_modCh c _

theorem State.outside_promote (c : ChannelId) (s : State) : s.SameOutside c (s.promote c) := by
  unfold State.promote
  split
  · exact (s.outside_modRecord c _).trans (State.outside_react c _ _)
  · exact State.SameOutside.refl c s

theorem State.outside_removeEntry (c : ChannelId) (s : State) (e : Entry) (m : Manner) :
    s.SameOutside c (s.removeEntry c e m) :=
  (s.outside_modRecord c _).trans (State.outside_emit c _ _)

theorem State.outside_afterRemoval (c : ChannelId) (s : State) : s.SameOutside c (s.afterRemoval c) :=
  (s.outside_promote c).trans (State.outside_leaveFaultedIfEmpty c _)

/-- An entry found to leave stands on a channel of the group. -/
theorem State.nextEnded_mem (ended : State → ChannelId → Entry → Bool) (s : State) (c g : ChannelId) (e : Entry)
    (h : s.nextEnded ended c = some (g, e)) :
    g ∈ s.group c ∧ e ∈ (s.ch g).record.entries := by
  have m := List.mem_of_find?_eq_some h
  simp only [State.groupEntries, List.mem_append, List.mem_filter, List.mem_flatMap, List.mem_map, Prod.mk.injEq] at m
  rcases m with ⟨⟨g', hg, e', he, rfl, rfl⟩, -⟩ | ⟨⟨g', hg, e', he, rfl, rfl⟩, -⟩ <;> exact ⟨hg, he⟩

theorem State.outside_settleFrom (ended : State → ChannelId → Entry → Bool) (c : ChannelId) (fuel : Nat) (s : State) :
    s.SameOutside c (s.settleFrom ended c fuel) := by
  induction fuel generalizing s with
  | zero => exact State.SameOutside.refl c s
  | succ n ih =>
    unfold State.settleFrom
    split
    · exact State.SameOutside.refl c s
    · rename_i g e h
      have k : s.SameOutside g ((s.removeEntry g e .auto).afterRemoval g) :=
        (s.outside_removeEntry g e .auto).trans (State.outside_afterRemoval g _)
      rcases s.mem_group c g (State.nextEnded_mem ended s c g e h).1 with rfl | rfl
      · exact k.trans (ih _)
      · exact k.mate.trans (ih _)

theorem State.outside_settleBy (ended : State → ChannelId → Entry → Bool) (c : ChannelId) (s : State) :
    s.SameOutside c (s.settleBy ended c) := State.outside_settleFrom ended c _ s

theorem State.outside_settle (c : ChannelId) (s : State) : s.SameOutside c (s.settle c) := s.outside_settleBy _ c

theorem State.outside_markSeen (c : ChannelId) (s : State) (e : Entry) : s.SameOutside c (s.markSeen c e) := by
  unfold State.markSeen
  split
  · exact s.outside_modRecord c _
  · exact State.SameOutside.refl c s

theorem State.outside_enterRecord (c : ChannelId) (s : State) (e : Entry) : s.SameOutside c (s.enterRecord c e) := by
  unfold State.enterRecord
  dsimp only
  split
  · exact ((s.outside_modRecord c _).trans (State.outside_emit c _ _)).trans (State.outside_react c _ _)
  · exact (s.outside_modRecord c _).trans (State.outside_emit c _ _)

theorem State.outside_raiseOne (c : ChannelId) (s : State) (e : Entry) : s.SameOutside c (s.raiseOne c e) := by
  unfold State.raiseOne
  dsimp only
  split
  · exact s.outside_markSeen c e
  · exact (s.outside_markSeen c e).trans (State.outside_emit c _ _)
  · exact (s.outside_markSeen c e).trans (State.outside_enterRecord c _ e)

/-- A raise acts on the channel and on the other of its pair alone. -/
theorem State.outside_raise (c : ChannelId) (s : State) (x : Source) : s.SameOutside c (s.raise c x) := by
  unfold State.raise
  dsimp only
  split
  · exact ((s.outside_raiseOne c _).trans (State.SameOutside.mate (State.outside_raiseOne (mateOf c) _ _))).trans
      (State.outside_settle c _)
  · exact (s.outside_raiseOne c _).trans (State.outside_settle c _)

end Sys2Proof.Machine
end

