-- ==== Sys2Proof/Laws/Operands.lean ====
section
/-! SUPPORT. What the operand forms read: each reader of Operands.lean gives the layout of Safety.lean, where the bytes
have the length that 12.6.3 or 12.6.5 asks for. -/

namespace Sys2Proof.Machine

/-! ## Numbers -/

/-- A clamped field is the minimum and the maximum with the bounds. -/
theorem clampNat_eq (lo hi x : Nat) (h : lo ≤ hi) : clampNat lo hi x = max lo (min hi x) := by
  unfold clampNat
  split
  · omega
  · split <;> omega

/-- The table of R8 for the prescale. -/
theorem prescaleOf_eq (p : Nat) : prescaleOf p = [1, 1, 2, 4, 4, 8, 8, 8].getD p 8 := by
  match p with
  | 0 | 1 | 2 | 3 | 4 | 5 | 6 | 7 => rfl
  | n + 8 => simp [prescaleOf]

/-! ## Bodies -/

/-- TIMEBASE (R8). -/
theorem timebaseOf_eq (body : List Byte) :
    timebaseOf body = if body.length = 9 then some (timebaseLayout body) else none := by
  rcases body with _ | ⟨a0, _ | ⟨a1, _ | ⟨a2, _ | ⟨a3, _ | ⟨a4, _ | ⟨a5, _ | ⟨a6, _ | ⟨a7, _ | ⟨a8, _ | ⟨a9,
    l⟩⟩⟩⟩⟩⟩⟩⟩⟩⟩ <;>
    simp [timebaseOf, timebaseLayout, wordAt, byteAt, of16, clampNat_eq, prescaleOf_eq, cminOf, BitVec.toNat_eq]

/-- SENSING (R10, R11, R190). -/
theorem sensingOf_eq (body : List Byte) :
    sensingOf body = if body.length = 6 then some (sensingLayout body) else none := by
  rcases body with _ | ⟨a0, _ | ⟨a1, _ | ⟨a2, _ | ⟨a3, _ | ⟨a4, _ | ⟨a5, _ | ⟨a6, l⟩⟩⟩⟩⟩⟩⟩ <;>
    simp [sensingOf, sensingLayout, wordAt, byteAt, of16, clampNat_eq]

/-- LOOP (R40). -/
theorem loopOf_eq (body : List Byte) :
    loopOf body = if body.length = 10 then some (loopLayout body) else none := by
  rcases body with _ | ⟨a0, _ | ⟨a1, _ | ⟨a2, _ | ⟨a3, _ | ⟨a4, _ | ⟨a5, _ | ⟨a6, _ | ⟨a7, _ | ⟨a8, _ | ⟨a9, _ |
    ⟨a10, l⟩⟩⟩⟩⟩⟩⟩⟩⟩⟩⟩ <;>
    simp [loopOf, loopLayout, wordAt, byteAt, of16]

/-- ENCODER (R13, R16, R190). -/
theorem encoderOf_eq (body : List Byte) :
    encoderOf body = if body.length = 12 then some (encoderLayout body) else none := by
  rcases body with _ | ⟨a0, _ | ⟨a1, _ | ⟨a2, _ | ⟨a3, _ | ⟨a4, _ | ⟨a5, _ | ⟨a6, _ | ⟨a7, _ | ⟨a8, _ | ⟨a9, _ |
    ⟨a10, _ | ⟨a11, _ | ⟨a12, l⟩⟩⟩⟩⟩⟩⟩⟩⟩⟩⟩⟩⟩ <;>
    simp [encoderOf, encoderLayout, wordAt, byteAt, of16, clampNat_eq, longAt, of32, word32, BitVec.toNat_eq]

/-- LIMITS (R54). -/
theorem limitsOf_eq (body : List Byte) :
    limitsOf body = if body.length = 13 then some (limitsLayout body) else none := by
  rcases body with _ | ⟨a0, _ | ⟨a1, _ | ⟨a2, _ | ⟨a3, _ | ⟨a4, _ | ⟨a5, _ | ⟨a6, _ | ⟨a7, _ | ⟨a8, _ | ⟨a9, _ |
    ⟨a10, _ | ⟨a11, _ | ⟨a12, _ | ⟨a13, l⟩⟩⟩⟩⟩⟩⟩⟩⟩⟩⟩⟩⟩⟩ <;>
    simp [limitsOf, limitsLayout, wordAt, byteAt, of16, clampNat_eq]
  omega

/-- THERMAL (R109). -/
theorem thermalOf_eq (body : List Byte) :
    thermalOf body = if body.length = 12 then some (thermalLayout body) else none := by
  rcases body with _ | ⟨a0, _ | ⟨a1, _ | ⟨a2, _ | ⟨a3, _ | ⟨a4, _ | ⟨a5, _ | ⟨a6, _ | ⟨a7, _ | ⟨a8, _ | ⟨a9, _ |
    ⟨a10, _ | ⟨a11, _ | ⟨a12, l⟩⟩⟩⟩⟩⟩⟩⟩⟩⟩⟩⟩⟩ <;>
    simp [thermalOf, thermalLayout, wordAt, byteAt, of16, longAt, of32]

/-- FAULTS (R132). -/
theorem faultsOf_eq (body : List Byte) :
    faultsOf body = if body.length = 3 then some (faultsLayout body) else none := by
  rcases body with _ | ⟨a0, _ | ⟨a1, _ | ⟨a2, _ | ⟨a3, l⟩⟩⟩⟩ <;>
    simp [faultsOf, faultsLayout, byteAt, clampNat_eq, endModeOf, BitVec.toNat_eq]

/-- IDLE (R55). -/
theorem idleOf_eq (body : List Byte) :
    idleOf body = if body.length = 6 then some (idleLayout body) else none := by
  rcases body with _ | ⟨a0, _ | ⟨a1, _ | ⟨a2, _ | ⟨a3, _ | ⟨a4, _ | ⟨a5, _ | ⟨a6, l⟩⟩⟩⟩⟩⟩⟩ <;>
    simp [idleOf, idleLayout, wordAt, byteAt, of16, clampNat_eq, BitVec.toNat_eq]

/-! ## Lists of records -/

/-- The place of a byte does not move with the bytes before it. -/
theorem byteAt_cons (a : Byte) (l : List Byte) (k : Nat) : byteAt (a :: l) (k + 1) = byteAt l k := rfl

theorem wordAt_cons (a : Byte) (l : List Byte) (k : Nat) : wordAt (a :: l) (k + 1) = wordAt l k := rfl

theorem longAt_cons (a : Byte) (l : List Byte) (k : Nat) : longAt (a :: l) (k + 1) = longAt l k := rfl

theorem windowLayout_cons (a : Byte) (l : List Byte) (k : Nat) : windowLayout (a :: l) (k + 1) = windowLayout l k := rfl

/-- Window records, eleven bytes each (R101, R102). -/
theorem windowRecords_eq (bytes : List Byte) (n : Nat) (h : bytes.length = 11 * n) :
    windowRecords bytes = some ((List.range n).map (fun j => windowLayout bytes (11 * j))) := by
  induction n generalizing bytes with
  | zero => simp [List.length_eq_zero_iff.mp h, windowRecords]
  | succ n ih =>
    rcases bytes with _ | ⟨a0, _ | ⟨a1, _ | ⟨a2, _ | ⟨a3, _ | ⟨a4, _ | ⟨a5, _ | ⟨a6, _ | ⟨a7, _ | ⟨a8, _ | ⟨a9, _ |
      ⟨a10, l⟩⟩⟩⟩⟩⟩⟩⟩⟩⟩⟩ <;> simp at h <;> try omega
    rw [List.range_succ_eq_map, windowRecords, ih l (by omega)]
    simp [Function.comp_def, Nat.mul_add, windowLayout, longAt, wordAt, byteAt, word32, of32, of16]

/-- No records where the bytes do not divide into them. -/
theorem windowRecords_length (bytes : List Byte) (ws : List Window) (h : windowRecords bytes = some ws) :
    bytes.length = 11 * ws.length := by
  induction ws generalizing bytes with
  | nil =>
    unfold windowRecords at h
    split at h <;> simp_all
  | cons w ws ih =>
    unfold windowRecords at h
    split at h
    · cases h
    · obtain ⟨vs, hv, h⟩ := Option.map_eq_some_iff.mp h
      cases h
      have := ih _ hv
      simp only [List.length_cons]
      omega
    · cases h

/-- WINDOWS (R102). -/
theorem windowsOf_eq (body : List Byte) :
    windowsOf body = if bodyLength 7 body = some body.length then some (windowsLayout body) else none := by
  cases body with
  | nil => rfl
  | cons n rest =>
    have hb : bodyLength 7 (n :: rest) = if n.toNat ≤ 4 then some (1 + 11 * n.toNat) else none := rfl
    have hw : windowsOf (n :: rest) = match windowRecords rest with
      | none => none
      | some ws => if ws.length = n.toNat ∧ n.toNat ≤ 4 then some ws else none := rfl
    rw [hb, hw]
    by_cases hn : n.toNat ≤ 4 ∧ rest.length = 11 * n.toNat
    · rw [windowRecords_eq rest _ hn.2]
      simp only [List.length_map, List.length_range, hn.1, and_self, if_true, List.length_cons, hn.2]
      rw [if_pos (by rw [Nat.add_comm])]
      simp [windowsLayout, byteAt, Nat.add_comm 1, windowLayout_cons]
    · have hl : ¬ (if n.toNat ≤ 4 then some (1 + 11 * n.toNat) else none) = some (n :: rest).length := by
        split
        · simp only [Option.some.injEq, List.length_cons]
          omega
        · simp
      rw [if_neg hl]
      split
      · rfl
      · rename_i ws h
        have := windowRecords_length _ _ h
        rw [if_neg (by omega)]

/-! ## The blocks of a telegram -/

/-- Whole blocks are cut as their headers say (R190). -/
theorem tileFrom_flatMap (tiles : List (Byte × List Byte)) (h : ∀ t ∈ tiles, t.2.length < 256) (fuel : Nat)
    (hf : tiles.length ≤ fuel) :
    tileFrom fuel (tiles.flatMap (fun t => t.1 :: BitVec.ofNat 8 t.2.length :: t.2)) =
      some (tiles.map (fun t => (t.1.toNat, t.2))) := by
  induction tiles generalizing fuel with
  | nil => cases fuel <;> rfl
  | cons t ts ih =>
    obtain ⟨fuel, rfl⟩ : ∃ n, fuel = n + 1 := ⟨fuel - 1, by simp at hf; omega⟩
    have hl : (BitVec.ofNat 8 t.2.length : Byte).toNat = t.2.length := by
      simpa using Nat.mod_eq_of_lt (h t (by simp))
    have := ih (fun u hu => h u (by simp [hu])) fuel (by simpa using hf)
    simp [tileFrom, hl, this]

/-- The payload of a LOAD_PROFILE is cut into its blocks (R190). -/
theorem IsProfile.tile {payload : List Byte} {c : ChannelId} {kind : Byte} {tiles : List (Byte × List Byte)}
    (h : IsProfile payload c kind tiles) :
    Machine.tile (payload.drop 2) = some (tiles.map (fun t => (t.1.toNat, t.2))) := by
  obtain ⟨hl, rfl⟩ := h
  refine tileFrom_flatMap tiles hl _ ?_
  clear hl
  induction tiles with
  | nil => simp
  | cons t ts ih => simp at ih ⊢; omega

/-- A telegram holds a block of this type. -/
def Blocks.holds (b : Blocks) (code : Byte) : Bool :=
  match code.toNat with
  | 1 => b.timebase.isSome
  | 2 => b.sensing.isSome
  | 3 => b.loop.isSome
  | 4 => b.encoder.isSome
  | 5 => b.limits.isSome
  | 6 => b.thermal.isSome
  | 7 => b.windows.isSome
  | 8 => b.faults.isSome
  | 9 => b.idle.isSome
  | _ => false

/-- The blocks of two telegrams together, the first's where both hold one. -/
def Blocks.or (a b : Blocks) : Blocks :=
  { timebase := a.timebase.or b.timebase
    sensing := a.sensing.or b.sensing
    loop := a.loop.or b.loop
    encoder := a.encoder.or b.encoder
    limits := a.limits.or b.limits
    thermal := a.thermal.or b.thermal
    windows := a.windows.or b.windows
    faults := a.faults.or b.faults
    idle := a.idle.or b.idle }

/-- One block joins the others where its type is new and its length right (R190). -/
theorem Blocks.add_eq (b : Blocks) (t : Byte × List Byte) :
    b.add t.1.toNat t.2 = if b.holds t.1 = false ∧ bodyLength t.1 t.2 = some t.2.length then
      some (b.or (blocksLayout [t])) else Option.none := by
  obtain ⟨code, body⟩ := t
  by_cases hc : 1 ≤ code.toNat ∧ code.toNat ≤ 9
  · obtain ⟨k, hk, rfl⟩ : ∃ k, k ∈ [1, 2, 3, 4, 5, 6, 7, 8, 9] ∧ code = BitVec.ofNat 8 k :=
      ⟨code.toNat, by simp; omega, by simp⟩
    simp only [List.mem_cons, List.not_mem_nil, or_false] at hk
    rcases hk with rfl | rfl | rfl | rfl | rfl | rfl | rfl | rfl | rfl <;>
      simp only [Blocks.add, Blocks.holds, BitVec.toNat_ofNat, Nat.reducePow, Nat.reduceMod, timebaseOf_eq,
        sensingOf_eq, loopOf_eq, encoderOf_eq, limitsOf_eq, thermalOf_eq, windowsOf_eq, faultsOf_eq, idleOf_eq] <;>
      (split <;> simp_all [bodyLength, blocksLayout, Blocks.or, List.lookup, @eq_comm Nat _ body.length])
  · have : bodyLength code body = Option.none := by
      unfold bodyLength
      split <;> simp_all
    have hn : ∀ b : Blocks, b.add code.toNat body = Option.none := by
      intro b
      unfold Blocks.add
      split <;> simp_all
    simp [this, hn]

/-- Once a block is wrong, no block is read. -/
theorem blocks_fold_none (tiles : List (Byte × List Byte)) :
    tiles.foldl (fun (acc : Option Blocks) t => acc.bind (fun b => b.add t.1.toNat t.2)) Option.none =
      Option.none := by
  induction tiles with
  | nil => rfl
  | cons t ts ih => exact ih

theorem Blocks.holds_or (a b : Blocks) (code : Byte) : (a.or b).holds code = (a.holds code || b.holds code) := by
  unfold Blocks.holds
  split <;> simp [Blocks.or]

theorem Blocks.or_or (a b c : Blocks) : (a.or b).or c = a.or (b.or c) := by simp [Blocks.or, Option.or_assoc]

/-- A telegram holds the types of its blocks. -/
theorem blocksLayout_holds (t : Byte × List Byte) (n : Nat) (h : bodyLength t.1 t.2 = some n) (code : Byte) :
    (blocksLayout [t]).holds code = (code == t.1) := by
  have hk : ∀ (k : Byte) (β : Type) (f : List Byte → β), (([t].lookup k).map f).isSome = (k == t.1) := by
    intro k β f
    simp only [List.lookup]
    cases k == t.1 <;> rfl
  have hc : ∀ k, code.toNat = k → code = BitVec.ofNat 8 k := fun k e => by subst e; simp
  unfold Blocks.holds
  split <;> rename_i e <;> try (cases hc _ e; exact hk _ _ _)
  cases hb : code == t.1
  · rfl
  · cases eq_of_beq hb
    unfold bodyLength at h
    split at h <;> first | contradiction | cases h

theorem blocksLayout_cons (t : Byte × List Byte) (ts : List (Byte × List Byte)) :
    blocksLayout (t :: ts) = (blocksLayout [t]).or (blocksLayout ts) := by
  have h : ∀ k : Byte, (t :: ts).lookup k = ([t].lookup k).or (ts.lookup k) := by
    intro k
    simp only [List.lookup]
    cases k == t.1 <;> rfl
  simp only [blocksLayout, Blocks.or, h, Option.map_or]

/-- The blocks of a telegram join those of another: all of them where none is wrong and no type is present twice. -/
theorem blocks_fold (tiles : List (Byte × List Byte)) (b : Blocks) :
    tiles.foldl (fun acc t => acc.bind (fun b => b.add t.1.toNat t.2)) (some b) =
      if TilesFit tiles ∧ ∀ t ∈ tiles, b.holds t.1 = false then some (b.or (blocksLayout tiles)) else Option.none := by
  induction tiles generalizing b with
  | nil => simp [TilesFit, blocksLayout, Blocks.or]
  | cons t ts ih =>
    rw [List.foldl_cons, Option.bind_some, Blocks.add_eq]
    by_cases ht : b.holds t.1 = false ∧ bodyLength t.1 t.2 = some t.2.length
    · rw [if_pos ht, ih, blocksLayout_cons t ts, Blocks.or_or]
      have hc : ∀ p q : Prop, (p ↔ q) → ∀ [Decidable p] [Decidable q] (x y : Option Blocks),
          (if p then x else y) = if q then x else y := fun p q h _ _ x y => by simp [h]
      apply hc
      simp only [TilesFit, Blocks.holds_or, blocksLayout_holds t _ ht.2, List.map_cons, List.nodup_cons, List.mem_cons,
        forall_eq_or_imp, ht.1, ht.2, Bool.or_eq_false_iff, List.mem_map, not_exists, not_and, true_and, beq_eq_false_iff_ne]
      constructor
      · rintro ⟨⟨hn, hl⟩, hh⟩
        exact ⟨⟨⟨fun u hu => (hh u hu).2, hn⟩, hl⟩, fun u hu => (hh u hu).1⟩
      · rintro ⟨⟨⟨hd, hn⟩, hl⟩, hh⟩
        exact ⟨⟨hn, hl⟩, fun u hu => ⟨hh u hu, hd u hu⟩⟩
    · rw [if_neg ht, blocks_fold_none, if_neg]
      rintro ⟨⟨-, hl⟩, hh⟩
      exact ht ⟨hh t (by simp), hl t (by simp)⟩

/-- What `blocksOf` answers (R190): the layout of the blocks where none is wrong, else none. -/
theorem blocksOf_eq (tiles : List (Byte × List Byte)) :
    blocksOf (tiles.map (fun t => (t.1.toNat, t.2))) =
      if TilesFit tiles then some (blocksLayout tiles) else Option.none := by
  have h : ∀ b : Blocks, Blocks.none.or b = b := fun b => by simp [Blocks.or, Blocks.none]
  have hn : ∀ code, Blocks.none.holds code = false := fun code => by unfold Blocks.holds; split <;> rfl
  simp [blocksOf, List.foldl_map, blocks_fold, h, hn]

theorem Blocks.ordered_iff (b : Blocks) : b.ordered = true ↔ b.InOrder := by
  unfold Blocks.ordered Blocks.InOrder
  cases b.windows <;> cases b.thermal <;> simp [Window.ordered, ThermalValues.ordered]

theorem Blocks.complete_iff (b : Blocks) : b.complete = true ↔ b.HasFour := by
  unfold Blocks.complete Blocks.HasFour
  cases b.timebase <;> cases b.loop <;> cases b.encoder <;> cases b.limits <;> simp

/-! ## The bus profile, the coupling values and the input records -/

/-- CONFIGURE_BUS (R155). -/
theorem busProfileOf_eq (payload : List Byte) :
    busProfileOf payload =
      if payload.length = 19 then some (busProfileLayout payload, byteAt payload 12) else none := by
  rcases payload with _ | ⟨a0, _ | ⟨a1, _ | ⟨a2, _ | ⟨a3, _ | ⟨a4, _ | ⟨a5, _ | ⟨a6, _ | ⟨a7, _ | ⟨a8, _ | ⟨a9, _ |
    ⟨a10, _ | ⟨a11, _ | ⟨a12, _ | ⟨a13, _ | ⟨a14, _ | ⟨a15, _ | ⟨a16, _ | ⟨a17, _ | ⟨a18, _ |
    ⟨a19, l⟩⟩⟩⟩⟩⟩⟩⟩⟩⟩⟩⟩⟩⟩⟩⟩⟩⟩⟩⟩ <;>
    simp [busProfileOf, busProfileLayout, wordAt, byteAt, of16, clampNat_eq, channelOf]

/-- The four values of COUPLE (R116). -/
theorem couplingOf_eq (values : List Byte) :
    couplingOf values = if values.length = 12 then
      some
        { kskew := min 32767 (wordAt values 0), corrMax := min 32767 (wordAt values 2)
          skewLimit := max 1 (min 2147483647 (longAt values 4)), skewOffset := BitVec.ofNat 32 (longAt values 8) }
    else none := by
  rcases values with _ | ⟨a0, _ | ⟨a1, _ | ⟨a2, _ | ⟨a3, _ | ⟨a4, _ | ⟨a5, _ | ⟨a6, _ | ⟨a7, _ | ⟨a8, _ | ⟨a9, _ |
    ⟨a10, _ | ⟨a11, _ | ⟨a12, l⟩⟩⟩⟩⟩⟩⟩⟩⟩⟩⟩⟩⟩ <;>
    simp [couplingOf, wordAt, byteAt, of16, longAt, of32, word32, clampNat_eq]

/-- The records of CONFIGURE_INPUTS, seven bytes each (R177). -/
theorem inputRecords_eq (payload : List Byte) :
    inputRecords payload = if payload.length % 7 = 0 then some (inputsLayout payload) else none := by
  induction h : payload.length using Nat.strongRecOn generalizing payload with
  | _ n ih =>
    rcases payload with _ | ⟨a0, _ | ⟨a1, _ | ⟨a2, _ | ⟨a3, _ | ⟨a4, _ | ⟨a5, _ | ⟨a6, l⟩⟩⟩⟩⟩⟩⟩ <;>
      simp at h <;> subst h <;> try (simp [inputRecords]; done)
    · rfl
    · rw [inputRecords, ih l.length (by omega) l rfl]
      have hd : (l.length + 1 + 1 + 1 + 1 + 1 + 1 + 1) / 7 = l.length / 7 + 1 := by omega
      have hm : (l.length + 1 + 1 + 1 + 1 + 1 + 1 + 1) % 7 = l.length % 7 := by omega
      simp only [hm]
      split
      · simp [inputsLayout, hd, List.range_succ_eq_map, Function.comp_def, Nat.mul_add, wordAt, byteAt, of16]
      · rfl

/-- A checked record configures its input (R177). -/
theorem configure_toRecord (r : RawInput) (x : Input) : x.configure r.toRecord = r.configures x := by
  have hf : r.functionOf = if r.function = 1 then .limitPos (Fin.ofNat 10 r.assignment)
      else if r.function = 2 then .limitNeg (Fin.ofNat 10 r.assignment)
      else if r.function = 3 then .sto (BitVec.ofNat 10 r.assignment) else .general := by
    unfold RawInput.functionOf
    split <;> simp_all
  have hn : noticeOf r.notice = if r.notice = 1 then .assert else if r.notice = 2 then .release
      else if r.notice = 3 then .both else .none := by
    unfold noticeOf
    split <;> simp_all
  simp [Input.configure, RawInput.toRecord, RawInput.configures, hf, hn, clampNat_eq]

end Sys2Proof.Machine
end

