-- ==== Sys2Proof/Tests/Slice0.lean ====
section
/-! SUPPORT. Tests: what WellFormed refuses, worked examples of the spec, and for every statement with hypotheses a
state and operands that meet them. -/

namespace Sys2Proof.Tests

open Sys2Proof Sys2Proof.Machine

set_option maxRecDepth 100000

/-! ## Small states -/

/-- The next state of an outcome. -/
def after : Host.Outcome State Fault Refusal → State
  | .next s => s
  | .fault _ => State.reset
  | .refused _ => State.reset

/-- The state after these commands. -/
def run (s : State) (commands : List Instr) : State := commands.foldl (fun t i => after (exec i t)) s

/-- A channel in a state, with the gate mode of that state and reset values else. -/
def chan (st : ChState) : Channel :=
  { Channel.reset with state := st, tb := { Timebase.reset with gateMode := st.gateMode } }

/-- Channel 0 as given, in a part at reset values. -/
def at0 (x : Channel) : State := State.reset.setCh 0 x

/-- Channels 0 and 1 as given, a coupled pair. -/
def coupled (x y : Channel) : State :=
  ((State.reset.setCh 0 x).setCh 1 y).setPair 0 { Pair.reset with coupled := true }

/-- A bus profile, that of spec 9.11. -/
def profile : BusProfile :=
  { udcNom := 20000, uvIndex := 5, tUv := 5, uOv := 25000, uOn := 23000, uOff := 22500, tRide := 200, support := none,
    uSupport := 18000, kbus := 4000, isupMax := 12000 }

/-- The part with that profile held. -/
def onBus (s : State) : State := { s with bus := { s.bus with profile := some profile } }

/-- The request of the worked case of spec 2.11. -/
def worked : EngineRequest :=
  { channel := 0, period := 1, deadline := 0, ia := 1000, ib := -500, ic := -500, theta := 0, position := 0,
    udc := 20000, idRef := 0, iqRef := 1200, vff := 0,
    loop := { kpD := 2560, kiD := 6554, kpQ := 2560, kiQ := 6554, mlim := 37837 }, n := 2500, cmin := 20, tdc := 12,
    db := 32 }

/-- A computation of that request. -/
def computation : Computation :=
  { request := worked, intD := 0, intQ := 150000000, grantedAt := 0, missed := false, left := false,
    wasReset := false }

/-- A telegram on the line. -/
def onLine (endsReset : Bool) : Sending :=
  { telegram := { cls := .reply, kind := 0xB9, tag := 1, payload := [0], endsReset := endsReset },
    bytes := frame 0xB9 1 [0], startedAt := 0 }

/-- A record for a period. -/
def record (applyAt : BitVec 16) (iq id : Int) : Setpoint := { applyAt := applyAt, iq := iq, id := id, vff := none }

/-- A fault record that holds one source. -/
def holding (e : Entry) : FaultRecord := { FaultRecord.reset with active := some e }

/-- A telegram of the event class. -/
def anEvent : Telegram := { cls := .event, kind := 0x40, tag := 0, payload := [1], endsReset := false }

/-- A telegram of the telemetry class. -/
def aTelemetry : Telegram := { cls := .telemetry, kind := 0x41, tag := 0, payload := [1], endsReset := false }

/-- The blocks TIMEBASE, LOOP, ENCODER and LIMITS of a first profile. -/
def fourTiles : List (Byte × List Byte) :=
  [(1, [1] ++ le16 2500 ++ [0, 80, 40, 0] ++ le16 0),
    (3, le16 2560 ++ le16 6554 ++ le16 2560 ++ le16 6554 ++ le16 37837),
    (4, le32 20000 ++ [4] ++ le16 1000 ++ le32 0 ++ [0]),
    (5, le16 20000 ++ le16 10000 ++ le16 8000 ++ le16 500 ++ [8, 3, 0] ++ le16 500)]

/-- Blocks as bytes: each its type, its length and its body. -/
def tileBytes (tiles : List (Byte × List Byte)) : List Byte :=
  tiles.flatMap (fun t => t.1 :: BitVec.ofNat 8 t.2.length :: t.2)

/-- The same four as bytes. -/
def fourBlocks : List Byte := tileBytes fourTiles

/-! ## Ill-formed commands are refused -/

theorem test_no_conversion_of_no_channel : (Instr.conversionCompletion []).wellFormed = false := by decide

theorem test_no_two_conversions_of_one_channel :
    (Instr.conversionCompletion [⟨3, 0, 0⟩, ⟨3, 1, 1⟩]).wellFormed = false := by decide

theorem test_driver_line_needs_two_samples : (Instr.gateDriverLineChange 0 true 1).wellFormed = false := by decide

theorem test_mains_line_needs_twenty_samples : (Instr.mainsFailChange true 19).wellFormed = false := by decide

theorem test_payload_of_249_bytes_fits_no_telegram :
    (Instr.setpoint 0 (List.replicate 249 0)).wellFormed = false ∧
      (Instr.setpoint 0 (List.replicate 248 0)).wellFormed = true := by decide

theorem test_setpoint_is_no_request_telegram : (Instr.requestTelegram 0x01 0 []).wellFormed = false := by decide

theorem test_long_request_telegram : (Instr.requestTelegram 0x20 0 (List.replicate 249 0)).wellFormed = false := by
  decide

theorem test_length_248_is_no_error :
    (Instr.lengthError 248).wellFormed = false ∧ (Instr.lengthError 249).wellFormed = true := by decide

theorem test_known_kind_is_not_bad :
    (Instr.badKind 0x20 0 []).wellFormed = false ∧ (Instr.badKind 0x01 0 []).wellFormed = false ∧
      (Instr.badKind 0x99 0 (List.replicate 249 0)).wellFormed = false ∧
      (Instr.badKind 0x99 0 []).wellFormed = true := by
  decide

theorem test_long_request_payload : (Instr.enable 0 (List.replicate 249 0)).wellFormed = false := by decide

/-- The table gives no bits, so no word spells a command. -/
theorem test_no_word_spells_a_command :
    decodeTableWord 16 0x1234 = none ∧ State.reset.withFetchWord 16 0x1234 = State.reset := by decide

/-! ## Worked examples of the spec -/

/-- The check value of R180. -/
theorem test_crc_check_value : crcOf [0x31, 0x32, 0x33, 0x34, 0x35, 0x36, 0x37, 0x38, 0x39] = 0x29B1 := by decide

/-- The two examples of R16. -/
theorem test_electrical_angle :
    electricalAngle { cpr := 20000, pp := 4, thetaOff := 1000, pos0 := 0, inverted := false } 12345 = 31736 ∧
      electricalAngle { cpr := 20000, pp := 4, thetaOff := 1000, pos0 := 0, inverted := false } (-5) = 934 := by
  decide

/-- The worked case of 2.11: compare values, integrators, voltages and flags. -/
theorem test_worked_computation :
    (compute worked 0 150000000).compare = { a := 20, b := 2480, c := 1277 } ∧
      (compute worked 0 150000000).intD = -6554000 ∧ (compute worked 0 150000000).intQ = 150000000 ∧
      (compute worked 0 150000000).vd = -10100 ∧ (compute worked 0 150000000).vq = 5594 ∧
      (compute worked 0 150000000).clampD = false ∧ (compute worked 0 150000000).clampQ = true := by
  decide

/-- The entries that R21 tabulates, as its rule has them and as the table holds them. -/
theorem test_sine_entries :
    ∀ e ∈ [(0, (0 : Int)), (128, 23170), (256, 32767), (384, 23170), (512, 0), (640, -23170), (768, -32767), (896, -23170)],
      sine e.1 = e.2 ∧ IsSine e.1 e.2 := by
  unfold IsSine
  decide

/-- The worked case of 2.11, stage by stage: ed = -1000 and eq = 1200 give ud = -10100 and uq = 14409. -/
theorem test_worked_stages :
    worked.FormsVoltages 0 150000000 0 32767 (-1000) 1200 (-10100) 14409 ∧
      CentredVoltages 0 32767 (-10100) 5594 (-9997) 9998 308 := by
  unfold EngineRequest.FormsVoltages CentredVoltages HalfUpClamped HalfUp
  exact ⟨⟨0, 1000, 0, -10000, 12000, -100, 2409, ⟨0, by decide⟩, ⟨1000, by decide⟩, ⟨0, by decide⟩, by decide, by decide,
    ⟨-10000, by decide⟩, ⟨12000, by decide⟩, by decide⟩, ⟨-10100, 5594, 9895, -103, by decide⟩⟩

/-- R110: the balanced current 12000 against Icont 8000 raises the accumulator by 19531. -/
theorem test_thermal_rise :
    (Channel.heat { Channel.reset with
      limits := { LimitsValues.reset with icont := 8000 }
      sample := { Sample.reset with ia := 12000, ib := -6000, ic := -6000 } }).ref.accumulator = 19531 := by
  decide

/-- R106: Ilim 20000, Id_lim 10000 and a base of (−3000, 21000) give (−3000, 19773). -/
theorem test_circle :
    (fun x => ((x.ch 0).ref.appliedId, (x.ch 0).ref.appliedIq, (x.ch 0).ref.flags.circleLimited))
      (run (at0 { chan .running with
        limits := { LimitsValues.reset with ilim := 20000, idLim := 10000, icont := 8000 }
        queue := { SetpointQueue.reset with records := [record 1 21000 (-3000)] } }) [.valley 0]) =
      (-3000, 19773, true) := by
  decide

/-- 9.11, valley a: a link of 17,500 below U_support asks the spindle for a current of 7813 against its motion. -/
theorem test_support_current :
    (fun x => ((x.ch 8).ref.appliedIq, (x.ch 8).ref.appliedId))
      (run { State.reset.setCh 8 { chan .running with
          kind := .spindle
          limits := { LimitsValues.reset with ilim := 16000, idLim := 10000 }
          pos := { Position.reset with relatch := false, count := 400 }
          queue := { SetpointQueue.reset with baseId := -2000, baseIq := 3000 } } with
        bus := { Bus.reset with
          profile := some { profile with support := some 8 }, ride := .rideThrough, latest := 17500 } } [.valley 8]) =
      (-7813, -2000) := by
  decide

/-- 5.10.1: the two entries of the rewrite. -/
theorem test_rewrite :
    (fun x => ((x.ch 5).queue.records.map Setpoint.applyAt, (x.ch 5).queue.revised))
      (run (State.reset.setCh 5 { chan .running with
          tb := { Timebase.reset with gateMode := .modulate, period := 1000 }
          queue := { SetpointQueue.reset with
            records := [record 1001 4000 0, record 1002 4100 0, record 1003 4200 0, record 1004 4300 0,
              record 1005 4400 0, record 1006 4500 0] } })
        [.setpoint 7 ([5] ++ le16 1003 ++ le16 3000 ++ le16 0 ++ ([0x85] ++ le16 1004 ++ le16 2500 ++ le16 0 ++ le16 800))]) =
      ([1001, 1002, 1003, 1004], 4) := by
  decide

/-- 5.10.3: an entry for the period in progress is late, the next is appended. -/
theorem test_late_record :
    (fun x => ((x.ch 5).queue.records.map Setpoint.applyAt, (x.ch 5).queue.late))
      (run (State.reset.setCh 5 { chan .running with tb := { Timebase.reset with gateMode := .modulate, period := 1005 } })
        [.setpoint 7 ([5] ++ le16 1005 ++ le16 2400 ++ le16 0 ++ ([5] ++ le16 1006 ++ le16 2300 ++ le16 0))]) =
      ([1006], 1) := by
  decide

/-- 8.10.2: OVERCURRENT preempts I2T, which waits behind it. -/
theorem test_preemption :
    (fun x => ((x.ch 7).state, (x.ch 7).record.active, (x.ch 7).record.pending, (x.ch 7).op.last))
      (run (State.reset.setCh 7 { chan (.stopping .rampFault) with
          sensing := { SensingValues.reset with itrip := 30000 }
          sample := { Sample.reset with converting := true }
          op := { OpRecord.reset with inProgress := some .faultStop }
          record := holding (.own .i2t) }) [.conversionCompletion [⟨7, 2048, 0⟩]]) =
      (.faulted, some (.own .overcurrent), [.own .i2t], some (.faultStop, .aborted)) := by
  decide

/-- 10.7: STO on a coupled pair: own source first on the master, PARTNER first on the follower. -/
theorem test_sto_on_a_pair :
    (fun x => ((x.ch 0).record.entries, (x.ch 1).record.entries, (x.ch 1).state))
      (run { coupled (chan .running) (chan .running) with
        inputs := State.reset.inputs.set 2 { Input.reset with high := true, activeLow := true, function := .sto 67 } }
        [.inputFilteredChange 2 false]) =
      ([.own .sto, .partner .sto .gatesOff .auto], [.partner .sto .gatesOff .auto, .own .sto], .faulted) := by
  decide

/-- R72, 4.8.1: the 1024th sample ends a calibration; sums of 1024 times 2050 and 2046 average to these. -/
theorem test_calibration_ends :
    (fun x => ((x.ch 3).state, (x.ch 3).sensing.offA, (x.ch 3).sensing.offB))
      (run (State.reset.setCh 3 { chan .calibrating with
          sample := { Sample.reset with converting := true }
          op := { OpRecord.reset with inProgress := some .calibrate }
          cal := { Calibration.reset with condition := .running, sumA := 2097150, sumB := 2093058, count := 1023 } })
        [.conversionCompletion [⟨3, 2050, 2046⟩]]) =
      (.disabled, 2050, 2046) := by
  decide

/-- R7: with DT 2, at the tick at which the demand changes over, the low side goes off and the high side still waits. -/
theorem test_dead_time :
    (fun x => ((x.ch 0).tb.phaseA.high.on, (x.ch 0).tb.phaseA.low.on))
      (run (at0 { chan .running with
        timebase := { TimebaseValues.reset with dt := 2 }
        tb := { Timebase.reset with
          gateMode := .modulate, counter := 1249,
          phaseA := { high := { on := false, offTicks := 9 }, low := { on := true, offTicks := 0 } } } })
        [.prescaledClockTick 0]) = (false, false) := by
  decide

/-- 12.6.3 and R195: the reply to IDENTIFY after POWER_ON. -/
theorem test_identify_reply :
    ((run (after (exec .powerOn State.reset)) [.identify 7 []]).report.waiting.map Telegram.payload) =
      [[0, 0x56, 0x47, 0x10, 0x4C, 1, 10, 0, 0, 0, 0, 0]] := by
  decide

/-- R188 and 11.8: with the command queue and the transmit queue full, BUSY and the lost BUSY are counted. -/
theorem test_lost_busy :
    (fun x => (x.link.counts.busy, x.link.counts.lostBusy, x.commands.length))
      (run { State.reset with
        commands := List.replicate 4 ⟨0x10, 1, []⟩
        report := { Report.reset with sending := some (onLine false), waiting := List.replicate 31 aTelemetry } }
        [.requestTelegram 0x20 5 [0]]) = (1, 1, 4) := by
  decide

/-- 11.1 and 11.2: a telegram of one payload byte, byte by byte; R182: one whose first byte began before the reset
ended is not received. -/
theorem test_received_bytes :
    (run { State.reset with now := 19 } ((frame 0x20 5 [3]).map .byteArrival)).commands = [⟨0x20, 5, [3]⟩] ∧
      (run { State.reset with now := 18 } ((frame 0x20 5 [3]).map .byteArrival)).commands = [] := by decide

/-- R179: the next start bit may begin in the middle of the stop bit, so a byte that ends nineteen cycles after the one
before arrives then, one that ends twenty cycles after arrives then, and none arrives sooner. -/
theorem test_byte_spacing :
    [58, 59, 60].map (fun n =>
      (run { State.reset with now := n, link := { Link.reset with lastByteAt := some 40 } }
        [.byteArrival 0xA5]).link.lastByteAt) = [some 59, some 59, some 60] := by
  decide

/-- R2 and R4: a LATE of the FULL-mode master at the valley of a pair carries, with its PARTNER, the period number that
the valley produces on both channels. -/
theorem test_late_at_valley_of_a_pair :
    (fun x => ((x.ch 0).record.first.map FirstFault.period, (x.ch 1).record.first.map FirstFault.period))
      (run (coupled
          { chan .running with
            timebase := { TimebaseValues.reset with mode := .full }
            eng := { EngineSide.reset with mark := some 0, consecutiveLate := 2 } }
          { chan .running with timebase := { TimebaseValues.reset with mode := .full } }) [.valley 0]) =
      (some 1, some 1) := by
  decide

/-- R3, step 2: a record due at a valley of FULL mode is taken, though the load point of that valley stops the channel by
LATE, which empties the queue of the record after it. -/
theorem test_late_at_valley_takes_due_record :
    (fun x => ((x.ch 0).queue.taken, (x.ch 0).queue.records, (x.ch 0).state))
      (run (at0 { chan .running with
        timebase := { TimebaseValues.reset with mode := .full }
        eng := { EngineSide.reset with mark := some 0, consecutiveLate := 2 }
        queue := { SetpointQueue.reset with records := [record 1 5 0, record 2 5 0] } }) [.valley 0]) =
      (1, [], .faulted) := by
  decide

/-- R3, step 2, and R132: a record due at a valley is taken, though a FAULTS block of that valley lets DC_UNDER leave and
the GATES_OFF of the promoted POWER_LOSS stops the channel. -/
theorem test_faults_at_valley_takes_due_record :
    (fun x => ((x.ch 0).queue.taken, (x.ch 0).record.entries, (x.ch 0).state))
      (run (at0 { chan (.stopping .rampFault) with
        stop := { StopValues.reset with rq := 9000 }
        waiting := { Waiting.none with faults := some { FaultsValues.reset with dcUnderEnd := .auto } }
        record := { holding (.own .dcUnder) with pending := [.own .powerLoss] }
        queue := { SetpointQueue.reset with records := [record 1 5 0] } }) [.valley 0]) =
      (1, [.own .powerLoss], .faulted) := by
  decide

/-- R159: with the run open, an AUTO DC_OVER stays when CONFIGURE_BUS raises U_on, and leaves at the sample below it. -/
theorem test_dc_over_leaves_at_a_sample :
    (fun x => ((run x [.configureBus 1 (le16 20000 ++ [5, 5] ++ le16 25000 ++ le16 24000 ++ le16 22500 ++ le16 200 ++
        [0xFF] ++ le16 18000 ++ le16 4000 ++ le16 12000)]).ch 0).record.entries)
        (onBus { at0 { chan .faulted with
            record := holding (.own .dcOver), faults := { FaultsValues.reset with dcOverEnd := .auto } } with
          bus := { Bus.reset with ovOpen := true, latest := 23500 } }) = [.own .dcOver] ∧
      ((run (onBus { at0 { chan .faulted with
            record := holding (.own .dcOver), faults := { FaultsValues.reset with dcOverEnd := .auto } } with
          bus := { Bus.reset with ovOpen := true, latest := 23500 } }) [.dcLinkSample 2874]).ch 0).record.entries = [] := by
  decide

/-! ## Witnesses: the step and the resets -/

theorem witness_StepTakesFrontCommand : ∃ c rest s, State.pending s = c :: rest :=
  ⟨.powerOn, [.gapError], { State.reset with pending := [.powerOn, .gapError] }, rfl⟩

theorem witness_IdleStepServesHead :
    (∃ s r i, State.pending s = [] ∧ s.commands.head? = some r ∧ requestOf i = some r ∧ s.CanServe r) ∧
      (∃ s, State.pending s = [] ∧ ∀ r, s.commands.head? = some r → ¬ s.CanServe r) :=
  ⟨⟨{ State.reset with commands := [⟨0x10, 1, []⟩] }, ⟨0x10, 1, []⟩, .identify 1 [], rfl, rfl, rfl, rfl, by decide⟩,
    ⟨State.reset, rfl, by simp [State.reset]⟩⟩

theorem witness_PinResetsResetPart :
    (∃ s i, State.resetHeld s = true ∧ isResetRow i = false) ∧ State.reset.resetHeld = false :=
  ⟨⟨{ State.reset with resetHeld := true }, .valley 0, rfl, rfl⟩, rfl⟩

theorem witness_DeviceResetAwaitsAndTakesEffect :
    State.reset.CanServe ⟨0x39, 1, []⟩ ∧
      (∃ t i r, State.resetAwaited t = true ∧ requestOf i = some r) ∧
      (∃ s w, State.resetHeld s = false ∧ s.resetAwaited = true ∧ s.report.sending = some w ∧
        w.telegram.endsReset = true) ∧
      (State.reset.resetHeld = false ∧ State.reset.resetAwaited = false) ∧
      (∃ s w, State.resetHeld s = false ∧ s.resetAwaited = true ∧ s.report.sending = some w ∧
        w.telegram.endsReset = false) ∧
      State.reset.report.sending = none :=
  ⟨⟨rfl, by decide⟩, ⟨{ State.reset with resetAwaited := true }, .identify 1 [], ⟨0x10, 1, []⟩, rfl, rfl⟩,
    ⟨{ State.reset with resetAwaited := true, report := { Report.reset with sending := some (onLine true) } },
      onLine true, rfl, rfl, rfl, rfl⟩, ⟨rfl, rfl⟩,
    ⟨{ State.reset with resetAwaited := true, report := { Report.reset with sending := some (onLine false) } },
      onLine false, rfl, rfl, rfl, rfl⟩, rfl⟩

/-! ## Witnesses: valleys -/

theorem witness_ValleyOpensPeriod :
    ∃ s c, State.resetHeld s = false ∧ (s.ch c).state ≠ .unconfigured ∧ s.group c = [0, 1] :=
  ⟨coupled (chan .running) (chan .running), 1, by decide⟩

/-- A pair whose countdowns stand at 1 and 2, with no event enabled and so many telegrams in the transmit queue. -/
def countingDown (fill : Nat) : State :=
  { coupled { chan .running with divisor := 2, countdown := some 1 }
      { chan .running with divisor := 2, countdown := some 2 } with
    report := { Report.reset with
      sending := some (onLine false), waiting := List.replicate (fill - 1) aTelemetry, enables := 0 } }

/-- The last free place, and a full queue. -/
theorem witness_ValleyOpensPeriod_telemetry :
    ∃ due, due = ((countingDown 31).group 0).filter
        (fun g => ((countingDown 31).ch g).countdown.any (fun k => decide (k ≤ 1))) ∧ due = [0] ∧
      (countingDown 31).resetHeld = false ∧ ((countingDown 31).ch 0).state ≠ .unconfigured ∧
      (countingDown 31).report.Sound ∧ (countingDown 31).report.enables = 0 ∧
      (countingDown 31).report.fill + due.length = 32 ∧
      (countingDown 32).report.Sound ∧ (countingDown 32).report.enables = 0 ∧ (countingDown 32).report.fill = 32 ∧
      (countingDown 32).group 0 = (countingDown 31).group 0 := by
  unfold Report.Sound
  exact ⟨[0], by decide⟩

/-- The least CPR and a position just below the zero reference. -/
theorem witness_ValleyFormsAngle :
    ∃ s c, State.resetHeld s = false ∧ (s.ch c).state ≠ .unconfigured ∧
      ((run s [.valley c]).ch c).encoder.cpr = 256 ∧ ((run s [.valley c]).ch c).pos.latched = -1 :=
  ⟨at0 { chan .running with
      encoder := { EncoderValues.reset with cpr := 256 }, pos := { Position.reset with count := -1 } }, 0, by decide⟩

/-- Due and LATE at one valley, a record of a later period, and a state that takes none. -/
theorem witness_ValleyTakesDueRecord_counted :
    (∃ s r, State.resetHeld s = false ∧ (s.ch 0).state.takes = true ∧ (s.ch 0).queue.records.head? = some r ∧
      r.applyAt = (s.ch 0).tb.period + 1 ∧ (s.ch (s.leader 0)).state ≠ .unconfigured ∧
      ((run s [.valley 0]).ch 0).state = .faulted) ∧
    (∃ s r, State.resetHeld s = false ∧ (s.ch 0).state.takes = true ∧ (s.ch 0).queue.records.head? = some r ∧
      r.applyAt ≠ (s.ch 0).tb.period + 1) ∧
    (∃ s, State.resetHeld s = false ∧ (s.ch 0).state = .disabled ∧ (s.ch 0).state.takes = false) :=
  ⟨⟨at0 { chan .running with
      timebase := { TimebaseValues.reset with mode := .full }
      eng := { EngineSide.reset with mark := some 0, consecutiveLate := 2 }
      queue := { SetpointQueue.reset with records := [record 1 5 0] } }, record 1 5 0, by decide⟩,
    ⟨at0 { chan .running with queue := { SetpointQueue.reset with records := [record 2 5 0] } }, record 2 5 0,
      by decide⟩,
    ⟨at0 (chan .disabled), by decide⟩⟩

/-- A due record, an empty queue in RUNNING and an empty queue in CALIBRATING's neighbour STOPPING. -/
theorem witness_ValleyTakesDueRecord :
    (∃ s c r, State.resetHeld s = false ∧ (s.ch c).state ≠ .unconfigured ∧ (s.ch (s.leader c)).state.takes = true ∧
      ((run s [.valley c]).ch (s.leader c)).state.takes = true ∧ (s.ch (s.leader c)).queue.records = [r] ∧
      r.applyAt = (s.ch (s.leader c)).tb.period + 1) ∧
    (∃ s c, State.resetHeld s = false ∧ (s.ch (s.leader c)).state.isReference = true ∧
      ((run s [.valley c]).ch (s.leader c)).state.takes = true ∧ (s.ch (s.leader c)).queue.records = []) ∧
    (at0 (chan .running)).RecordsSound :=
  ⟨⟨at0 { chan .running with queue := { SetpointQueue.reset with records := [record 1 0 0] } }, 0, record 1 0 0,
      by decide⟩, ⟨at0 (chan .running), 0, by decide⟩, by unfold State.RecordsSound FaultRecord.Sound; decide⟩

/-- A channel in this state one valley before its hold limit of 8, with this mask and end mode of STARVED. -/
def starving (st : ChState) (mask : Nat) (mode : EndMode) : State :=
  at0 { chan st with
    queue := { SetpointQueue.reset with starvation := 7 }
    faults := { FaultsValues.reset with mask := mask, starvedEnd := mode } }

/-- Masks 4 and 5, in each reference state. -/
theorem witness_ValleyTakesDueRecord_starves (st : ChState) (h : st = .charging ∨ st = .running ∨ st = .parked)
    (mask : Nat) (hm : mask = 4 ∨ mask = 5) (mode : EndMode) :
    (starving st mask mode).resetHeld = false ∧ (starving st mask mode).isCoupled 0 = false ∧
      ∀ x, x = (starving st mask mode).ch 0 → x.timebase.mode = .half ∧ x.record.entries = [] ∧
        x.waiting = Waiting.none ∧ x.state = st ∧ x.state.isReference = true ∧ x.queue.starved = false ∧
        x.queue.records = [] ∧ (x.waiting.limits.getD x.limits).holdLimit = x.queue.starvation + 1 ∧
        x.faults.mask = mask ∧ x.faults.starvedEnd = mode ∧
        ((run (starving st mask mode) [.valley 0]).ch 0).ref.tripped = false := by
  rcases h with rfl | rfl | rfl <;> rcases hm with rfl | rfl <;> cases mode <;>
    exact ⟨by decide, by decide, fun x h => by subst h; decide⟩

/-- A ramp of an AUTO source with this q value, and a record due. -/
def rampingFor (e : Entry) (rq : Int) : State :=
  at0 { chan (.stopping .rampFault) with
    op := { OpRecord.reset with inProgress := some .faultStop }
    stop := { StopValues.reset with rq := rq }
    record := holding e
    ref := { RefPath.reset with tripped := true, accumulator := 4 }
    thermal := { awarn := 20, aclear := 10, atrip := 30 }
    faults := { FaultsValues.reset with starvedEnd := .auto, i2tEnd := .auto }
    queue := { SetpointQueue.reset with records := [record 1 5 0], starvation := 9, starved := true } }

/-- A ramp that ends at the valley, and one that does not, for STARVED and for I2T. -/
theorem witness_ValleyTakesDueRecord_ends (rq : Int) (h : rq = 256 ∨ rq = 257) (e : Entry)
    (he : e = .own .starved ∨ e = .own .i2t) :
    (rampingFor e rq).resetHeld = false ∧ (rampingFor e rq).isCoupled 0 = false ∧
      ∀ x, x = (rampingFor e rq).ch 0 → x.timebase.mode = .half ∧ x.waiting = Waiting.none ∧
        x.state = .stopping .rampFault ∧ x.record.active = some e ∧ x.record.pending = [] ∧
        x.faults.starvedEnd = .auto ∧ x.faults.i2tEnd = .auto ∧ x.queue.records = [record 1 5 0] ∧
        (record 1 5 0).applyAt = x.tb.period + 1 ∧ x.limits.rampSlope = 256 ∧ x.ref.tripped = true ∧
        ((run (rampingFor e rq) [.valley 0]).ch 0).ref.tripped = false := by
  rcases h with rfl | rfl <;> rcases he with rfl | rfl <;>
    exact ⟨by decide, by decide, fun x h => by subst h; decide⟩

/-- FAULTED for I2T, with the accumulator at Aclear and one above it. -/
theorem witness_ValleyHeatsAndDerates_autoEnds (a : Nat) (h : a = 10 ∨ a = 11) :
    ∃ s : State, s.resetHeld = false ∧ s.isCoupled 0 = false ∧ (s.ch 0).timebase.mode = .half ∧
      (s.ch 0).waiting = Waiting.none ∧ (s.ch 0).record.active = some (.own .i2t) ∧ (s.ch 0).record.pending = [] ∧
      (s.ch 0).faults.i2tEnd = .auto ∧ (s.ch 0).ref.tripped = true ∧ (s.ch 0).state = .faulted ∧
      ((run s [.valley 0]).ch 0).ref.accumulator = a ∧
      ((run s [.valley 0]).ch 0).ref.tripped = decide (10 < a) := by
  rcases h with rfl | rfl
  · exact ⟨at0 { chan .faulted with
      record := holding (.own .i2t), ref := { RefPath.reset with tripped := true, accumulator := 10 }
      thermal := { awarn := 20, aclear := 10, atrip := 30 }
      faults := { FaultsValues.reset with i2tEnd := .auto } }, by decide⟩
  · exact ⟨at0 { chan .faulted with
      record := holding (.own .i2t), ref := { RefPath.reset with tripped := true, accumulator := 11 }
      thermal := { awarn := 20, aclear := 10, atrip := 30 }
      faults := { FaultsValues.reset with i2tEnd := .auto } }, by decide⟩

/-- Accumulators at Aclear, one above it, and one above Awarn. -/
theorem witness_ValleyHeatsAndDerates :
    ∃ s c, State.resetHeld s = false ∧ (s.ch c).state ≠ .unconfigured ∧ (s.ch c).waiting.thermal = none ∧
      (s.ch c).thermal.aclear < (s.ch c).thermal.awarn ∧
      ((run s [.valley c]).ch c).ref.accumulator = (s.ch c).thermal.aclear ∧ (s.ch c).ref.derate = true ∧
      (s.ch c).ref.tripped = false :=
  ⟨at0 { chan .running with
      thermal := { awarn := 20, aclear := 10, atrip := 30 }
      ref := { RefPath.reset with accumulator := 10, derate := true } }, 0, by decide⟩

theorem witness_ValleyTrips :
    ∃ s c, State.resetHeld s = false ∧ (s.ch c).state ≠ .unconfigured ∧ (s.ch c).ref.tripped = false ∧
      ((run s [.valley c]).ch c).ref.tripped = true ∧
      ((run s [.valley c]).ch c).ref.accumulator = (s.ch c).thermal.atrip ∧
      (s.ch c).thermal.awarn < ((run s [.valley c]).ch c).ref.accumulator :=
  ⟨at0 { chan .running with
      thermal := { awarn := 20, aclear := 10, atrip := 30 }, ref := { RefPath.reset with accumulator := 30 } }, 0,
    by decide⟩

theorem witness_ValleyFormsSkew :
    ∃ s c, State.resetHeld s = false ∧ (s.ch c).state ≠ .unconfigured ∧ s.isCoupled c = true :=
  ⟨coupled (chan .disabled) (chan .disabled), 0, by decide⟩

/-- A pair in one state whose master stands at 5 and whose follower at 0. -/
def apart (st : ChState) (limit : Nat) (raised : Bool) : State :=
  (coupled { chan st with pos := { Position.reset with count := 5 } } (chan st)).setPair 0
    { Pair.reset with coupled := true, skewLimit := limit, skewRaised := raised }

/-- A difference at the limit and one above it, with SKEW raised already and not, running and DISABLED. -/
theorem witness_ValleyFormsSkew_supervision (limit : Nat) (h : limit = 4 ∨ limit = 5) (raised : Bool) (st : ChState)
    (hs : st = .running ∨ st = .disabled) :
    (apart st limit raised).resetHeld = false ∧ (apart st limit raised).isCoupled 0 = true ∧
      (∀ g ∈ (apart st limit raised).group 0, ((apart st limit raised).ch g).timebase.mode = .half ∧
        ((apart st limit raised).ch g).record.entries = [] ∧ ((apart st limit raised).ch g).state = st) ∧
      ((apart st limit raised).pair 0).skewLimit = limit ∧
      ((apart st limit raised).pair 0).skewRaised = raised ∧
      ((run (apart st limit raised) [.valley 0]).pair 0).delta.natAbs = 5 ∧
      2 < ((run (apart st limit raised) [.valley 0]).ch 0).faults.mask := by
  rcases h with rfl | rfl <;> rcases hs with rfl | rfl <;> cases raised <;> decide

/-- A mixed pair whose channels stand 5 counts apart. -/
def mixed (x y : ChState) (limit : Nat) (raised : Bool) : State :=
  (coupled { chan x with pos := { Position.reset with count := 5 } }
    { chan y with record := if y = .faulted then holding (.own .driver) else FaultRecord.reset }).setPair 0
    { Pair.reset with coupled := true, skewLimit := limit, skewRaised := raised }

/-- A difference at the limit and one above it, with SKEW raised already and not, in pairs of states of each row: one
driving, both driving, one still in STOPPING, and both in DISABLED, CALIBRATING or FAULTED. -/
theorem witness_ValleyFormsSkew_mixed (limit : Nat) (h : limit = 4 ∨ limit = 5) (raised : Bool) (x y : ChState)
    (hs : (x, y) = (.charging, .charging) ∨ (x, y) = (.parked, .parked) ∨ (x, y) = (.stopping .brake, .faulted) ∨
      (x, y) = (.stopping .brake, .calibrating) ∨ (x, y) = (.disabled, .faulted)) :
    (mixed x y limit raised).resetHeld = false ∧ (mixed x y limit raised).isCoupled 0 = true ∧
      (mixed x y limit raised).bus.uvSet = false ∧
      (∀ g ∈ (mixed x y limit raised).group 0, ∀ z ∈ [(mixed x y limit raised).ch g], z.state ≠ .unconfigured ∧
        z.timebase.mode = .half ∧ (z.record.active = none → z.record.pending = []) ∧
        (∀ e ∈ z.record.entries, e.endMode z.faults = .held) ∧ z.waiting = Waiting.none ∧
        z.queue.starvation + 1 < z.limits.holdLimit ∧
        ((run (mixed x y limit raised) [.valley 0]).ch g).ref.tripped = false ∧ 2 < z.faults.mask) ∧
      ((mixed x y limit raised).ch 0).state = x ∧ ((mixed x y limit raised).ch 1).state = y ∧
      ((run (mixed x y limit raised) [.valley 0]).pair 0).delta.natAbs = 5 ∧
      (x = .stopping .brake → ((run (mixed x y limit raised) [.valley 0]).ch 0).state.isStopping = true) := by
  rcases h with rfl | rfl <;> rcases hs with hs | hs | hs | hs | hs <;> cases hs <;> cases raised <;>
    exact ⟨by decide, by decide, by decide, by decide, by decide, by decide, by decide, by decide⟩

/-- A radius of 0. -/
theorem witness_ReferencesWithinCircle :
    ∃ s c, State.resetHeld s = false ∧ (s.ch c).state ≠ .unconfigured ∧ (s.ch c).limits.ilim = 0 :=
  ⟨at0 (chan .running), 0, by decide⟩

/-- The spindle of 9.11 as support channel in ride-through: the quotient is 7813, its current −7813. -/
theorem witness_ReferencesWithinCircle_supports :
    ∃ (s : State) (c : ChannelId) (p : BusProfile) (q : Int), s.resetHeld = false ∧ (s.ch c).state ≠ .unconfigured ∧
      s.bus.profile = some p ∧ p.support = some c ∧ s.bus.ride = .rideThrough ∧
      ((run s [.valley c]).ch c).state.isReference = true ∧
      ((run s [.valley c]).ch c).ref.flags.override = true ∧
      256 * q ≤ p.kbus * ((p.uSupport : Int) - ((run s [.valley c]).ch c).pos.udc) + 128 ∧
      p.kbus * ((p.uSupport : Int) - ((run s [.valley c]).ch c).pos.udc) + 128 < 256 * (q + 1) ∧
      -(Int.sign ((run s [.valley c]).ch c).pos.omega) * max 0 (min (p.isupMax : Int) q) = -7813 :=
  ⟨{ State.reset.setCh 8 { chan .running with
        kind := .spindle, pos := { Position.reset with relatch := false, count := 400 } } with
      bus := { Bus.reset with
        profile := some { profile with support := some 8 }, ride := .rideThrough, latest := 17500 } }, 8,
    { profile with support := some 8 }, 7813, by decide⟩

/-- A pair in a skew of 5 with its references at the extremes, a window whose limit is the master's position and one
whose base lies one past it, and limit inputs of the follower. -/
def bounded : State :=
  (((((coupled
      { chan .running with
        pos := { Position.reset with count := 5 }
        limits := { LimitsValues.reset with ilim := 32767, idLim := 32767 }
        queue := { SetpointQueue.reset with baseIq := 32767 }
        windows :=
          [{ enabled := true, blockPos := true, blockNeg := false, capPresent := true, base := 0, limit := 5, cap := 300 },
            { enabled := true, blockPos := false, blockNeg := true, capPresent := true, base := 6, limit := 9,
              cap := 200 }] }
      (chan .running)).setPair 0 { Pair.reset with coupled := true, kskew := 300, corrMax := 1000 }).setInput 0
    { Input.reset with function := .limitNeg 1, high := true }).setInput 1
    { Input.reset with function := .limitPos 1, high := false }))

theorem witness_ReferencesWithinCircle_stages :
    bounded.resetHeld = false ∧ bounded.group 0 = [0, 1] ∧ (bounded.ch 0).state ≠ .unconfigured ∧
      ((run bounded [.valley 0]).pair 0).corr ≠ 0 ∧
      ((run bounded [.valley 0]).ch 0).ref.baseIq.natAbs = 32767 ∧
      ((run bounded [.valley 0]).ch 0).pos.latched = 5 ∧
      ((run bounded [.valley 0]).ch 0).ref.cap = some 300 ∧ ((run bounded [.valley 0]).ch 1).ref.cap = none ∧
      (bounded.input 0).active = true ∧ (bounded.input 1).active = false := by
  decide

/-- A record on the circle: 3000 squared and 4000 squared make 5000 squared. -/
theorem witness_SetpointReachesReference :
    ∃ s c r rest, State.resetHeld s = false ∧ s.isCoupled c = false ∧ (s.ch c).state = .running ∧
      (s.ch c).timebase.mode = .half ∧ (s.ch c).record.entries = [] ∧ (s.ch c).waiting = Waiting.none ∧
      (s.ch c).windows = [] ∧ (∀ i, (s.input i).function ≠ .limitPos c ∧ (s.input i).function ≠ .limitNeg c) ∧
      s.bus.profile = none ∧ (s.ch c).queue.records = r :: rest ∧ r.applyAt = (s.ch c).tb.period + 1 ∧
      r.id.natAbs ≤ min (s.ch c).limits.idLim 5000 ∧ r.id ^ 2 + r.iq ^ 2 = 5000 ^ 2 ∧
      ((run s [.valley c]).ch c).ref.derate = false ∧ (s.ch c).limits.ilim = 5000 :=
  ⟨at0 { chan .running with
      limits := { LimitsValues.reset with ilim := 5000, idLim := 3000 }
      queue := { SetpointQueue.reset with records := [record 1 4000 (-3000)] } }, 0, record 1 4000 (-3000), [],
    by decide⟩

theorem witness_ParkedChannelWakesAndRampEnds_wakes :
    ∃ s c r, State.resetHeld s = false ∧ s.isCoupled c = false ∧ (s.ch c).state = .parked ∧
      (s.ch c).timebase.mode = .half ∧ (s.ch c).record.entries = [] ∧ s.bus.uvSet = false ∧
      (s.ch c).waiting.limits = none ∧ (s.ch c).queue.starvation + 2 = (s.ch c).limits.holdLimit ∧
      (s.ch c).waiting.thermal = none ∧ ((run s [.valley c]).ch c).ref.tripped = false ∧
      (s.ch c).queue.records = [r] ∧ r.applyAt = (s.ch c).tb.period + 1 ∧ r.iq = 1 :=
  ⟨at0 { chan .parked with
      queue := { SetpointQueue.reset with records := [record 1 1 0], starvation := 6 } }, 0, record 1 1 0, by decide⟩

theorem witness_ParkedChannelWakesAndRampEnds_stays :
    ∃ s c, State.resetHeld s = false ∧ s.isCoupled c = false ∧ (s.ch c).state = .parked ∧
      (s.ch c).timebase.mode = .half ∧ (s.ch c).record.entries = [] ∧ s.bus.uvSet = false ∧
      (s.ch c).waiting = Waiting.none ∧ (s.ch c).queue.starvation + 1 < (s.ch c).limits.holdLimit ∧
      ((run s [.valley c]).ch c).ref.tripped = false ∧ (s.ch c).queue.records.head? = none :=
  ⟨at0 (chan .parked), 0, by decide⟩

/-- A ramp of the host with this q value. -/
def ramping (rq : Int) : State :=
  at0 { chan (.stopping .rampHost) with
    op := { OpRecord.reset with inProgress := some .hostStop }
    stop := { StopValues.reset with rq := rq } }

/-- A ramp whose values stand at the slope, and one whose q value stands one above it. -/
theorem witness_ParkedChannelWakesAndRampEnds_ramps (rq : Int) (h : rq = 256 ∨ rq = -257) :
    ∃ s c, State.resetHeld s = false ∧ s.isCoupled c = false ∧ (s.ch c).state = .stopping .rampHost ∧
      (s.ch c).timebase.mode = .half ∧ (s.ch c).record.entries = [] ∧ (s.ch c).waiting = Waiting.none ∧
      (s.ch c).op.inProgress = some .hostStop ∧ ((run s [.valley c]).ch c).ref.tripped = false ∧
      (s.ch c).limits.rampSlope = 256 ∧ (s.ch c).stop.rq = rq := by
  rcases h with rfl | rfl
  · exact ⟨ramping 256, 0, by decide⟩
  · exact ⟨ramping (-257), 0, by decide⟩

/-- A channel in a stop of a fault with a HELD entry. -/
def stopping (st : ChState) (op : Operation) (entries : FaultRecord) (stop : StopValues) : State :=
  at0 { chan st with op := { OpRecord.reset with inProgress := some op }, record := entries, stop := stop }

/-- Ramp values at the slope and one above it; the seventh and the eighth slow valley of a brake, with an entry and
with none. -/
theorem witness_ParkedChannelWakesAndRampEnds_faultStops (s : State)
    (h : s = stopping (.stopping .rampFault) .faultStop (holding (.own .i2t)) { StopValues.reset with rd := 256 } ∨
      s = stopping (.stopping .rampFault) .faultStop (holding (.own .i2t)) { StopValues.reset with rd := 257 } ∨
      s = stopping (.stopping .brake) .brake (holding (.own .encoder)) { StopValues.reset with slowCount := 6 } ∨
      s = stopping (.stopping .brake) .brake FaultRecord.reset { StopValues.reset with slowCount := 7 }) :
    s.resetHeld = false ∧ s.isCoupled 0 = false ∧ (s.ch 0).timebase.mode = .half ∧
      ((s.ch 0).record.entries ≠ [] ∨ (s.ch 0).state = .stopping .brake) ∧
      ((s.ch 0).record.active = none → (s.ch 0).record.pending = []) ∧
      (∀ e ∈ (s.ch 0).record.entries, e.endMode (s.ch 0).faults = .held) ∧ (s.ch 0).waiting = Waiting.none ∧
      (s.ch 0).limits.rampSlope = 256 ∧ ((run s [.valley 0]).ch 0).ref.tripped = false ∧
      ((run s [.valley 0]).ch 0).pos.omega.natAbs ≤ (s.ch 0).limits.brakeSpeed := by
  rcases h with rfl | rfl | rfl | rfl <;> decide

/-- A pair at rest that may park, and one whose follower has moved by one count. -/
theorem witness_ParkedChannelWakesAndRampEnds_parks (count : BitVec 32) (h : count = 0 ∨ count = 1) :
    ∃ s : State, s.resetHeld = false ∧ s.group 0 = [0, 1] ∧ (∀ g ∈ s.group 0, (s.ch g).state = .running) ∧
      (∀ g ∈ s.group 0, ((run s [.valley 0]).ch g).state = .running) ∧
      ((run s [.valley 0]).ch 0).idle.parkAllowed = true ∧
      (∀ g ∈ s.group 0, ((run s [.valley 0]).ch g).ref.appliedId = 0 ∧ ((run s [.valley 0]).ch g).ref.appliedIq = 0) ∧
      ((run s [.valley 0]).ch 1).pos.omega = count.toInt := by
  rcases h with rfl | rfl
  · exact ⟨coupled { chan .running with idle := { IdleValues.reset with parkAllowed := true } }
      { chan .running with pos := { Position.reset with relatch := false } }, by decide⟩
  · exact ⟨coupled { chan .running with idle := { IdleValues.reset with parkAllowed := true } }
      { chan .running with pos := { Position.reset with relatch := false, count := 1 } }, by decide⟩

/-- A parked pair whose master has this record due. -/
def parkedPair : State :=
  coupled { chan .parked with queue := { SetpointQueue.reset with records := [record 1 1 0] } } (chan .parked)

theorem witness_ParkedChannelWakesAndRampEnds_pairWakes :
    parkedPair.resetHeld = false ∧ parkedPair.isCoupled 1 = true ∧ parkedPair.bus.uvSet = false ∧
      (∀ g ∈ parkedPair.group 1, (parkedPair.ch g).state = .parked ∧ (parkedPair.ch g).timebase.mode = .half ∧
        (parkedPair.ch g).record.entries = [] ∧ (parkedPair.ch g).waiting.thermal = none ∧
        ((run parkedPair [.valley 1]).ch g).ref.tripped = false) ∧
      (parkedPair.ch 0).queue.records = [record 1 1 0] ∧
      (record 1 1 0).applyAt = (parkedPair.ch 0).tb.period + 1 ∧ (record 1 1 0).iq ≠ 0 ∧
      ((run parkedPair [.valley 1]).pair 0).skewRaised = false := by
  decide

/-- A pair whose master ramps for the host and whose follower ramps for a fault, with this d value on the follower. -/
def rampingPair (rd : Int) : State :=
  coupled { chan (.stopping .rampHost) with op := { OpRecord.reset with inProgress := some .hostStop } }
    { chan (.stopping .rampFault) with
      op := { OpRecord.reset with inProgress := some .faultStop }
      record := holding (.own .linkLoss)
      stop := { StopValues.reset with rd := rd } }

/-- The follower's value at the slope, and one above it. -/
theorem witness_ParkedChannelWakesAndRampEnds_pairEnds (rd : Int) (h : rd = -256 ∨ rd = 257) :
    (rampingPair rd).resetHeld = false ∧ (rampingPair rd).isCoupled 0 = true ∧
      (∀ g ∈ (rampingPair rd).group 0, ∀ x ∈ [(rampingPair rd).ch g], x.timebase.mode = .half ∧
        (x.record.active = none → x.record.pending = []) ∧ (∀ e ∈ x.record.entries, e.endMode x.faults = .held) ∧
        x.waiting = Waiting.none ∧ x.limits.rampSlope = 256 ∧
        ((x.state = .stopping .rampHost ∧ x.op.inProgress = some .hostStop) ∨
          (x.state = .stopping .rampFault ∧ x.op.inProgress = some .faultStop)) ∧
        ((run (rampingPair rd) [.valley 0]).ch g).ref.tripped = false) ∧
      ((run (rampingPair rd) [.valley 0]).pair 0).skewRaised = false := by
  rcases h with rfl | rfl <;> decide

/-! ## Witnesses: peaks, ticks, sampling and the engine -/

/-- A marked period without a staged set, one below the late limit, in a pair. -/
theorem witness_PeakTakesStagedSet :
    ∃ s c, State.resetHeld s = false ∧ (s.ch c).state ≠ .unconfigured ∧
      (∀ g ∈ s.group c, (s.ch g).timebase.mode = .half → (s.ch g).eng.mark = none ∨ (s.ch g).tb.staged ≠ none ∨
        min 15 ((s.ch g).eng.consecutiveLate + 1) < (s.ch g).limits.lateLimit) ∧
      (s.ch c).timebase.mode = .half ∧ (s.ch c).eng.mark = some 0 ∧ (s.ch c).tb.staged = none ∧
      (s.ch c).eng.slot = .waiting worked ∧ (s.ch c).eng.consecutiveLate + 2 = (s.ch c).limits.lateLimit :=
  ⟨at0 { chan .running with
      eng := { EngineSide.reset with mark := some 0, slot := .waiting worked, consecutiveLate := 1 } }, 0, by decide⟩

/-- A running channel in FULL mode with a marked period, two below its late limit. -/
def fullMode (late : Nat) : Channel :=
  { chan .running with
    timebase := { TimebaseValues.reset with mode := .full }
    eng := { EngineSide.reset with mark := some 0, slot := .waiting worked, consecutiveLate := late } }

/-- In FULL mode one below the late limit; and a waiting TIMEBASE while the gates modulate. -/
theorem witness_PeakTakesStagedSet_valley :
    (∃ s : State, s.resetHeld = false ∧ ∀ g ∈ s.group 0, (s.ch g).state = .running ∧ (s.ch g).tb.gateMode = .modulate ∧
      (s.ch g).timebase.mode = .full ∧ (s.ch g).record.entries = [] ∧ (s.ch g).waiting.timebase = none ∧
      (s.ch g).eng.mark = some 0 ∧ (s.ch g).tb.staged = none ∧
      min 15 ((s.ch g).eng.consecutiveLate + 1) + 1 =
        ((s.ch g).waiting.limits.getD (s.ch g).limits).lateLimit) ∧
    (∃ (s : State) (v : TimebaseValues), s.resetHeld = false ∧ (s.ch 0).state ≠ .unconfigured ∧
      (s.ch 0).tb.gateMode = .modulate ∧ (s.ch 0).waiting.timebase = some v) :=
  ⟨⟨at0 (fullMode 1), by decide⟩,
    ⟨at0 { chan .running with waiting := { Waiting.none with timebase := some TimebaseValues.reset } },
      TimebaseValues.reset, by decide⟩⟩

/-- A first tick after the reset, with the count of an output that is off one below its end. -/
theorem witness_TickObeysDeadTime_unconfigured :
    ∃ s : State, s.resetHeld = false ∧ (s.ch 0).state = .unconfigured ∧ (s.ch 0).tb.phaseA.high.on = false ∧
      (s.ch 0).tb.phaseA.high.offTicks = 254 :=
  ⟨at0 { Channel.reset with tb := { Timebase.reset with
      phaseA := { high := { on := false, offTicks := 254 }, low := { on := false, offTicks := 255 } } } }, by decide⟩

theorem witness_TickObeysDeadTime :
    ∃ s c, State.resetHeld s = false ∧ (s.ch c).state ≠ .unconfigured ∧ (s.ch c).tb.gateMode = .modulate ∧
      (s.ch c).tb.counter + 1 = (s.ch c).timebase.n :=
  ⟨at0 { chan .running with tb := { Timebase.reset with gateMode := .modulate, counter := 2499 } }, 0, by decide⟩

/-- Two channels whose conversions are under way, and their mid-scale samples. -/
def converting (x y : Channel) : State :=
  (at0 { x with sample := { Sample.reset with converting := true } }).setCh 2
    { y with sample := { Sample.reset with converting := true } }

def twoSamples : List RawSample := [⟨2, 2048, 2048⟩, ⟨0, 2048, 2048⟩]

theorem witness_ConversionFormsCurrents :
    ∃ s : State, s.resetHeld = false ∧ (twoSamples.map RawSample.channel).Nodup ∧
      ∀ r ∈ twoSamples, (s.ch r.channel).state ≠ .unconfigured ∧ (s.ch r.channel).sample.converting = true :=
  ⟨converting (chan .running) (chan .disabled), by decide⟩

/-- Two completions in one command with equal deadlines, an expired request in one slot, another request waiting with a
later deadline; with the engine free and with the engine busy. -/
theorem witness_ConversionFormsRequest :
    ∃ s : State, s.resetHeld = false ∧ (twoSamples.map RawSample.channel).Nodup ∧ s.engine = none ∧
      (∀ r ∈ twoSamples, (s.ch r.channel).state.computes = true ∧ (s.ch r.channel).sample.converting = true ∧
        ((run s [.conversionCompletion twoSamples]).ch r.channel).sample.trip = false ∧
        (requestFormed r.channel (s.ch r.channel) (s.ch r.channel)).deadline = 2500) ∧
      (s.ch 0).eng.slot = .expired worked ∧ (s.ch 5).eng.slot = .waiting { worked with channel := 5, deadline := 2501 } ∧
      ∃ k, ({ s with engine := some k } : State).engine = some k :=
  ⟨(converting { chan .running with eng := { EngineSide.reset with slot := .expired worked } } (chan .running)).setCh 5
      { chan .running with
        eng := { EngineSide.reset with slot := .waiting { worked with channel := 5, deadline := 2501 } } },
    by decide, by decide, by decide, by decide, by decide, by decide, computation, rfl⟩

/-- Of two requests with equal deadlines the lower channel's is granted, and the other waits (R44). -/
theorem test_oneGrantAmongTwo :
    (run (converting (chan .running) (chan .running)) [.conversionCompletion twoSamples]).engine.map
        (fun k => k.request.channel) = some 0 ∧
      ((run (converting (chan .running) (chan .running)) [.conversionCompletion twoSamples]).ch 2).eng.slot ≠ .empty := by
  decide

/-- A calibration that has taken `n` samples, and a conversion under way. -/
def calibrated (n : Nat) : State :=
  at0 { chan .calibrating with
    sample := { Sample.reset with converting := true }
    op := { OpRecord.reset with inProgress := some .calibrate }
    cal := { Calibration.reset with condition := .running, count := n } }

/-- The 1024th sample, and the one before it. -/
theorem witness_CalibrationAccumulates (n : Nat) (h : n = 1023 ∨ n = 1022) :
    ∃ s r, State.resetHeld s = false ∧ (s.ch (RawSample.channel r)).state = .calibrating ∧
      (s.ch r.channel).sample.converting = true ∧ (s.ch r.channel).op.inProgress = some .calibrate ∧
      ((run s [.conversionCompletion [r]]).ch r.channel).sample.trip = false ∧ (s.ch r.channel).cal.count = n := by
  rcases h with rfl | rfl
  · exact ⟨calibrated 1023, ⟨0, 2048, 2048⟩, by decide⟩
  · exact ⟨calibrated 1022, ⟨0, 2048, 2048⟩, by decide⟩

theorem witness_CalibrationAccumulates_room : (calibrated 1023).RoomFor 2 := by
  unfold State.RoomFor Report.Sound
  decide

theorem running_clear (x : Channel) (hs : x.state = .running) (hr : x.record.entries = [])
    (hg : x.tb.gateMode = .modulate) (priority : Nat) (hm : priority < x.faults.mask) :
    (at0 x).RunsClear 0 priority := by
  have h : (at0 x).ch 0 = x := rfl
  exact ⟨rfl, by unfold State.isCoupled; rfl, by rw [h]; exact hs, by rw [h]; exact hr, by rw [h]; exact hg,
    by rw [h]; exact hm⟩

theorem witness_GatesOffSourcesStopChannel :
    (∃ (s : State) (c : ChannelId), s.RunsClear c 0 ∧ (s.ch c).sample.driverAsserted = false ∧ s.RoomFor 2) ∧
    (∃ (s : State) (r : RawSample), s.RunsClear r.channel 0 ∧ (s.ch r.channel).sample.converting = true ∧
      ((run s [.conversionCompletion [r]]).ch r.channel).sample.trip = true ∧
      (s.ch r.channel).sample.trip = false) ∧
    (∃ (s : State) (c : ChannelId), s.RunsClear c 1 ∧ (s.ch c).timebase.mode = .half ∧ (s.ch c).eng.mark ≠ none ∧
      (s.ch c).tb.staged = none ∧ (s.ch c).limits.lateLimit = min 15 ((s.ch c).eng.consecutiveLate + 1)) :=
  ⟨⟨at0 (chan .running), 0, running_clear _ rfl rfl rfl 0 (by decide), by decide,
      by unfold State.RoomFor Report.Sound; decide⟩,
    ⟨at0 { chan .running with sample := { Sample.reset with converting := true } }, ⟨0, 0, 2048⟩,
      running_clear _ rfl rfl rfl 0 (by decide), by decide, by decide, by decide⟩,
    ⟨at0 { chan .running with eng := { EngineSide.reset with mark := some 0, consecutiveLate := 2 } }, 0,
      running_clear _ rfl rfl rfl 1 (by decide), by decide, by decide, by decide, by decide⟩⟩

/-- In FULL mode at the late limit, and a running pair. -/
theorem witness_GatesOffSourcesStopChannel_more :
    (∃ s : State, s.RunsClear 0 1 ∧ (s.ch 0).timebase.mode = .full ∧ (s.ch 0).eng.mark ≠ none ∧
      (s.ch 0).tb.staged = none ∧ (s.ch 0).waiting.faults = none ∧
      ((s.ch 0).waiting.limits.getD (s.ch 0).limits).lateLimit = min 15 ((s.ch 0).eng.consecutiveLate + 1)) ∧
    (∃ s : State, s.resetHeld = false ∧ s.isCoupled 0 = true ∧ (s.ch 0).sample.driverAsserted = false ∧ s.RoomFor 4 ∧
      ∀ g ∈ s.group 0, (s.ch g).state = .running ∧ (s.ch g).tb.gateMode = .modulate ∧ (s.ch g).record.entries = [] ∧
        0 < (s.ch g).faults.mask) :=
  ⟨⟨at0 (fullMode 2), running_clear _ rfl rfl rfl 1 (by decide), by decide⟩,
    ⟨coupled (chan .running) (chan .running), rfl, by decide, by decide, by unfold State.RoomFor Report.Sound; decide,
      by decide⟩⟩

/-- A DRIVER entry whose line is still asserted. -/
theorem witness_GatesOffSourcesStopChannel_releases :
    ∃ s : State, s.resetHeld = false ∧ (s.ch 0).sample.driverAsserted = true ∧
      (s.ch 0).record.entries = [.own .driver] ∧
      ∀ g ∈ s.group 0, ∀ e ∈ (s.ch g).record.entries, e.endMode (s.ch g).faults = .held :=
  ⟨at0 { chan .faulted with
    sample := { Sample.reset with driverAsserted := true }, record := holding (.own .driver) }, by decide⟩

theorem witness_EngineCompletionDecides :
    (State.reset.resetHeld = false ∧ State.reset.engine = none) ∧
      ∃ s k, State.resetHeld s = false ∧ s.engine = some k ∧ Computation.missed k = false ∧ k.left = false ∧
        k.wasReset = false :=
  ⟨⟨rfl, rfl⟩, { at0 (chan .running) with engine := some computation }, computation, rfl, rfl, rfl, rfl, rfl⟩

/-- Two requests with one deadline wait. -/
theorem witness_GrantPicksNearestDeadline :
    ∃ s k, State.resetHeld s = false ∧ s.engine = some k ∧ (s.ch 0).eng.slot = .waiting worked ∧
      (s.ch 3).eng.slot = .waiting { worked with channel := 3 } ∧
      (run s [.engineCompletion]).engine.map Computation.request = some worked :=
  ⟨{ (at0 { chan .running with eng := { EngineSide.reset with slot := .waiting worked } }).setCh 3
      { chan .running with eng := { EngineSide.reset with slot := .waiting { worked with channel := 3 } } } with
      engine := some computation }, computation, rfl, rfl, rfl, rfl, by decide⟩

/-- The q axis of the worked case is clamped and its error pushes further out; the d axis is free. -/
theorem witness_VoltagesAndIntegratorsLimited :
    vqMax (vMax worked.udc worked.loop.mlim) (compute worked 0 150000000).vd <
        (unlimitedQ worked (measure worked) 150000000).natAbs ∧
      0 < loopError worked.iqRef (measure worked).iq ∧
      (unlimitedD worked (measure worked) 0).natAbs ≤ vMax worked.udc worked.loop.mlim ∧
      (2147418112 : Int).natAbs ≤ 2147418112 := by
  decide

/-- The worked case with these currents in phases A and B. -/
def withCurrents (ia ib : Int) : EngineRequest := { worked with ia := ia, ib := ib }

/-- The voltage of phase A in that case. -/
def voltageA (r : EngineRequest) : Int := (phaseVoltages (measure r) (compute r 0 0).vd (compute r 0 0).vq).1

/-- Currents at the edge of the band of 32 and inside it, and a Cmin of half N. -/
theorem witness_DutyStaysInBounds (ia : Int) (h : ia = 32 ∨ ia = 31) :
    ∃ q : Int, 2 * (withCurrents ia (-ia)).cmin ≤ (withCurrents ia (-ia)).n ∧
      2 * 20000 * q ≤ 2 * voltageA (withCurrents ia (-ia)) * (withCurrents ia (-ia)).n + 20000 ∧
      2 * voltageA (withCurrents ia (-ia)) * (withCurrents ia (-ia)).n + 20000 < 2 * 20000 * (q + 1) ∧
      max (withCurrents ia (-ia)).udc 64 = 20000 ∧ (withCurrents ia (-ia)).db = 32 ∧
      2 * ({ worked with cmin := 1250 } : EngineRequest).cmin = 2500 := by
  rcases h with rfl | rfl
  · exact ⟨Int.fdiv (2 * voltageA (withCurrents 32 (-32)) * 2500 + 20000) 40000, by decide⟩
  · exact ⟨Int.fdiv (2 * voltageA (withCurrents 31 (-31)) * 2500 + 20000) 40000, by decide⟩

/-! ## Witnesses: the encoder and the timers -/

/-- An encoder channel whose last pair is 00. -/
def encoder00 : Channel := { Channel.reset with pos := { Position.reset with tracks := some (false, false) } }

theorem witness_EncoderStepCounts :
    (State.reset.resetHeld = false ∧ (State.reset.ch 0).pos.tracks = none) ∧
      ((at0 encoder00).resetHeld = false ∧ ((at0 encoder00).ch 0).pos.tracks = some (false, false)) ∧
      ((false, false), (false, true)) ∈ [((false, false), (false, true)), ((false, true), (true, true)),
        ((true, true), (true, false)), ((true, false), (false, false))] := by
  decide

theorem witness_IllegalTransitionCounted :
    ((at0 encoder00).resetHeld = false ∧ ((at0 encoder00).ch 0).pos.tracks = some (false, false) ∧
      ((at0 encoder00).ch 0).state = .unconfigured ∧ (at0 encoder00).isCoupled 0 = false ∧
      ((at0 encoder00).ch 0).record.entries = []) ∧
    (∃ s : State, s.RunsClear 0 1 ∧ (s.ch 0).faults.encoderBrakes = false) ∧
    (∃ s : State, s.RunsClear 0 1 ∧ (s.ch 0).faults.encoderBrakes = true) :=
  ⟨by decide, ⟨at0 (chan .running), running_clear _ rfl rfl rfl 1 (by decide), rfl⟩,
    ⟨at0 { chan .running with faults := { FaultsValues.reset with encoderBrakes := true } },
      running_clear _ rfl rfl rfl 1 (by decide), rfl⟩⟩

/-- A record that holds LATE with OVERCURRENT before it or I2T behind it, and an active I2T in FAULTED and in a ramp. -/
theorem witness_IllegalTransitionCounted_pending :
    (∃ s : State, s.resetHeld = false ∧ s.isCoupled 0 = false ∧ (s.ch 0).state = .faulted ∧ (s.ch 0).record.Sound ∧
      (s.ch 0).record.active = some (.own .overcurrent) ∧ (s.ch 0).record.pending = [.own .late, .own .i2t] ∧
      (Entry.own .late).priority = 1 ∧ 1 < (Entry.own .i2t).priority ∧
      (∀ e ∈ (s.ch 0).record.entries, e ≠ .own .encoder ∧ e.endMode (s.ch 0).faults = .held) ∧
      1 < (s.ch 0).faults.mask ∧ s.RoomFor 1) ∧
    (∀ st, st = .faulted ∨ st = .stopping .rampFault → ∃ s : State, s.resetHeld = false ∧ s.isCoupled 0 = false ∧
      (s.ch 0).state = st ∧ (s.ch 0).record.Sound ∧ (s.ch 0).record.active = some (.own .i2t) ∧
      (∀ e ∈ (s.ch 0).record.entries, e ≠ .own .encoder ∧ e.endMode (s.ch 0).faults = .held) ∧
      1 < (s.ch 0).faults.mask ∧ s.RoomFor 1) := by
  unfold State.RoomFor Report.Sound FaultRecord.Sound
  exact ⟨⟨at0 { chan .faulted with
      record := { holding (.own .overcurrent) with pending := [.own .late, .own .i2t] } }, by decide⟩,
    fun st h => by
      rcases h with rfl | rfl
      · exact ⟨at0 { chan .faulted with record := holding (.own .i2t) }, by decide⟩
      · exact ⟨at0 { chan (.stopping .rampFault) with record := holding (.own .i2t) }, by decide⟩⟩

/-- A timer that runs out at this moment. -/
def timed (st : ChState) (timers : Timers) (op : Option Operation) : Channel :=
  { chan st with timers := timers, op := { OpRecord.reset with inProgress := op } }

theorem witness_ControllerTimersExpire :
    (∃ s c moment, State.resetHeld s = false ∧ (s.ch c).timers.charge = some moment ∧
      ∀ g ∈ s.group c, (s.ch g).state = .charging ∧ (s.ch g).tb.gateMode = .lowOn ∧
        (s.ch g).op.inProgress = some .charge) ∧
    (∃ s c moment, State.resetHeld s = false ∧ (s.ch c).timers.park = some moment ∧
      ∀ g ∈ s.group c, (s.ch g).state = .running ∧ (s.ch g).tb.gateMode = .modulate) ∧
    (∃ s c moment, State.resetHeld s = false ∧ (s.ch c).timers.brake = some moment ∧
      (s.ch c).state = .stopping .brake ∧ s.isCoupled c = false ∧ (s.ch c).op.inProgress = some .brake ∧
      (s.ch c).record.entries = [.own .encoder] ∧
      ∀ e ∈ (s.ch c).record.entries, e.endMode (s.ch c).faults = .held) ∧
    (∃ s c moment, State.resetHeld s = false ∧ (s.ch c).timers.holdoff = some moment ∧ (s.ch c).state = .disabled ∧
      (s.ch c).tb.gateMode = .off) ∧
    (State.reset.resetHeld = false ∧ (State.reset.ch 0).timers = Timers.stopped) :=
  ⟨⟨coupled (timed .charging { Timers.stopped with charge := some 9 } (some .charge))
      (timed .charging Timers.stopped (some .charge)), 0, 9, by decide⟩,
    ⟨at0 (timed .running { Timers.stopped with park := some 9 } none), 0, 9, by decide⟩,
    ⟨at0 { timed (.stopping .brake) { Timers.stopped with brake := some 9 } (some .brake) with
      record := holding (.own .encoder) }, 0, 9, by decide⟩,
    ⟨at0 (timed .disabled { Timers.stopped with holdoff := some 9 } none), 0, 9, by decide⟩, by decide⟩

/-! ## Witnesses: the bus and the inputs -/

/-- Samples at U_on, at U_ov, at U_off and just below U_uv of the profile. -/
theorem witness_BusSampleJudged :
    ∃ s p, State.resetHeld s = false ∧ s.bus.profile = some p ∧ BusProfile.uOff p < p.uOn ∧ p.uOn < p.uOv ∧
      8 * (2875#12).toNat = p.uOn ∧ 8 * (3125#12).toNat = p.uOv ∧
      8 * (1374#12).toNat < p.udcNom * (40 + 3 * p.uvIndex) / 100 ∧ s.bus.ovOpen = false ∧
      p.tUv = s.bus.uvDebounce + 1 ∧ (s.ch 0).state.isReference = true ∧ (s.ch 0).record.entries = [] :=
  ⟨onBus { at0 (chan .running) with bus := { Bus.reset with uvDebounce := 4 } }, profile, by decide⟩

/-- A FAULTED channel with an AUTO DC_OVER and a sample just below U_on; one with an AUTO DC_UNDER, FAULTED and still
ramping, at the sample just above U_uv that clears the condition. -/
theorem witness_BusSampleJudged_autoEnds (st : ChState) (h : st = .faulted ∨ st = .stopping .rampFault) :
    (∃ s : State, s.resetHeld = false ∧ s.bus.profile = some profile ∧ s.isCoupled 0 = false ∧
      (s.ch 0).state = .faulted ∧ (s.ch 0).record.active = some (.own .dcOver) ∧ (s.ch 0).record.pending = [] ∧
      (s.ch 0).faults.dcOverEnd = .auto ∧ 8 * (2874#12).toNat + 8 = profile.uOn) ∧
    (∃ s : State, s.resetHeld = false ∧ s.bus.profile = some profile ∧ s.isCoupled 0 = false ∧
      (s.ch 0).state = st ∧ (s.ch 0).record.active = some (.own .dcUnder) ∧ (s.ch 0).record.pending = [] ∧
      (s.ch 0).faults.dcUnderEnd = .auto ∧ s.bus.uvSet = true ∧ s.bus.uvDebounce + 1 = profile.tUv ∧
      8 * (1375#12).toNat = profile.udcNom * (40 + 3 * profile.uvIndex) / 100 ∧ 8 * (1376#12).toNat < profile.uOv) := by
  rcases h with rfl | rfl
  · exact ⟨⟨onBus (at0 { chan .faulted with
        record := holding (.own .dcOver), faults := { FaultsValues.reset with dcOverEnd := .auto } }), by decide⟩,
      ⟨onBus { at0 { chan .faulted with
          record := holding (.own .dcUnder), faults := { FaultsValues.reset with dcUnderEnd := .auto } } with
        bus := { Bus.reset with uvSet := true, uvDebounce := 4 } }, by decide⟩⟩
  · exact ⟨⟨onBus (at0 { chan .faulted with
        record := holding (.own .dcOver), faults := { FaultsValues.reset with dcOverEnd := .auto } }), by decide⟩,
      ⟨onBus { at0 { chan (.stopping .rampFault) with
          record := holding (.own .dcUnder), faults := { FaultsValues.reset with dcUnderEnd := .auto } } with
        bus := { Bus.reset with uvSet := true, uvDebounce := 4 } }, by decide⟩⟩

theorem witness_MainsFailureRides :
    (∃ s p, State.resetHeld s = false ∧ 20 ≤ 20 ∧ s.bus.mainsAsserted = false ∧ s.bus.ride = .normal ∧
      s.bus.profile = some p ∧ BusProfile.support p = none ∧ s.RoomFor 1) ∧
    (State.reset.resetHeld = false ∧ State.reset.bus.mainsAsserted = false ∧ State.reset.bus.ride = .normal ∧
      State.reset.bus.profile = none) ∧
    (∃ s, State.resetHeld s = false ∧ s.bus.mainsAsserted = true ∧ s.bus.ride = .normal) ∧
    (∃ s, State.resetHeld s = false ∧ s.bus.mainsAsserted = true ∧ s.bus.ride ≠ .normal ∧ s.RoomFor 1) :=
  ⟨⟨onBus State.reset, profile, rfl, by decide, rfl, rfl, rfl, rfl, by unfold State.RoomFor Report.Sound; decide⟩,
    by decide, ⟨{ State.reset with bus := { Bus.reset with mainsAsserted := true } }, by decide⟩,
    ⟨{ State.reset with bus := { Bus.reset with mainsAsserted := true, ride := .expired } }, rfl, rfl, by decide,
      by unfold State.RoomFor Report.Sound; decide⟩⟩

theorem witness_PartWideTimersExpire :
    (∃ s moment, State.resetHeld s = false ∧ s.bus.ride = .rideThrough ∧ s.bus.rideTimer = some moment ∧
      s.RunsClear 0 2 ∧ (s.ch 1).state = .unconfigured ∧ s.isCoupled 1 = false) ∧
    (∃ s moment, State.resetHeld s = false ∧ s.link.watchdog = .running moment ∧ s.RunsClear 0 3) ∧
    (State.reset.bus.ride ≠ .rideThrough ∧ ∀ moment, State.reset.link.watchdog ≠ .running moment) :=
  ⟨⟨{ at0 (chan .running) with bus := { Bus.reset with ride := .rideThrough, rideTimer := some 9 } }, 9, rfl, rfl,
      rfl, running_clear _ rfl rfl rfl 2 (by decide), by decide, by decide⟩,
    ⟨{ at0 (chan .running) with link := { Link.reset with watchdog := .running 9 } }, 9, rfl, rfl,
      running_clear _ rfl rfl rfl 3 (by decide)⟩, by decide, (fun _ h => by cases h)⟩

/-- A running channel with this mask, alone in a part whose ride timer and link watchdog run. -/
def expiring (mask : Nat) : State :=
  { at0 { chan .running with faults := { FaultsValues.reset with mask := mask } } with
    bus := { Bus.reset with ride := .rideThrough, rideTimer := some 9 }
    link := { Link.reset with watchdog := .running 9 } }

/-- Masks 2 and 3: under 3 POWER_LOSS enters and LINK_LOSS is still a warning. -/
theorem witness_PartWideTimersExpire_warns (mask : Nat) (h : mask = 2 ∨ mask = 3) :
    (expiring mask).resetHeld = false ∧ (expiring mask).bus.rideTimer = some 9 ∧
      (expiring mask).link.watchdog = .running 9 ∧ ((expiring mask).ch 0).state ≠ .unconfigured ∧
      (expiring mask).isCoupled 0 = false ∧ ((expiring mask).ch 0).faults.mask = mask ∧
      ((expiring mask).ch 0).record.entries = [] ∧ (∀ d, d ≠ 0 → ((expiring mask).ch d).state = .unconfigured) ∧
      (expiring mask).RoomFor 1 := by
  rcases h with rfl | rfl <;> (unfold State.RoomFor Report.Sound; decide)

/-- An input one sample before its filter length, and one that is further from it. -/
theorem witness_InputSampleFilters :
    ∃ s levels, State.resetHeld s = false ∧ (levels : BitVec 8).getLsbD 0 ≠ (s.input 0).high ∧
      (s.input 0).filterCount + 1 = (s.input 0).filterLength ∧ levels.getLsbD 1 ≠ (s.input 1).high ∧
      (s.input 1).filterCount + 1 < (s.input 1).filterLength ∧ levels.getLsbD 2 = (s.input 2).high :=
  ⟨State.reset.setInput 0 { Input.reset with filterCount := 3 }, 3, by decide⟩

/-- A sample event at which inputs 0 and 2 change, one at which input 0 alone does, and one at which none does. -/
theorem witness_InputSampleFilters_changes :
    ∃ s : State, s.resetHeld = false ∧
      ∀ p ∈ [((5 : BitVec 8), ([0, 2] : List InputId)), (1, [0]), (0, [])],
        ([0, 1, 2, 3, 4, 5, 6, 7] : List InputId).filter (fun i => p.1.getLsbD i.val != (s.input i).high &&
          decide ((s.input i).filterLength ≤ (s.input i).filterCount + 1)) = p.2 :=
  ⟨(State.reset.setInput 0 { Input.reset with filterCount := 3 }).setInput 2 { Input.reset with filterLength := 1 },
    by decide⟩

/-- A sample event that settles an STO input high turns off the running channel of its set (R171, R174). -/
theorem test_sampleEvent_raisesSto :
    ((run ((at0 (chan .running)).setInput 0 { Input.reset with filterLength := 1, function := .sto 1 })
      [.inputSampleEvent 1]).ch 0).state = .faulted := by
  decide

/-- Input 0 with a function, in a part with channel 0 as given. -/
def input0 (x : Channel) (i : Input) : State := (at0 x).setInput 0 i

theorem witness_InputChangeActs :
    (∃ s : State, s.resetHeld = false ∧ (s.input 0).high ≠ true ∧ true ≠ (s.input 0).activeLow ∧
      (s.input 0).function = .sto 1 ∧ (1#10).getLsbD (0 : ChannelId).val = true ∧
      (∀ j, (s.input j).active = true → (s.input j).stoFor 0 = false) ∧ s.RunsClear 0 0) ∧
    ((State.reset.input 0).high = false ∧ State.reset.resetHeld = false) :=
  ⟨⟨input0 (chan .running) { Input.reset with function := .sto 1 }, rfl, by decide, by decide, by decide, by decide,
      by decide, running_clear _ rfl rfl rfl 0 (by decide)⟩, by decide⟩

/-- A transmit queue with room for one telegram, with no event but INPUT enabled. -/
def oneFree : Report :=
  { Report.reset with sending := some (onLine false), waiting := List.replicate 30 aTelemetry, enables := 0x10 }

/-- Input 0 with a function and notice edge at a level, before that queue. -/
def noticing (function : InputFunction) (notice : NoticeEdge) (high : Bool) : State :=
  { input0 (chan .running) { Input.reset with function := function, notice := notice, high := high } with
    report := oneFree }

/-- Assertions and releases of every function, with every notice edge. -/
theorem witness_InputChangeActs_notices (function : InputFunction) (notice : NoticeEdge) (high : Bool) :
    (noticing function notice high).resetHeld = false ∧ ((noticing function notice high).input 0).high ≠ !high ∧
      ((noticing function notice high).input 0).function = function ∧
      ((noticing function notice high).input 0).notice = notice ∧
      ((noticing function notice high).input 0).activeLow = false ∧
      (∀ c, ∀ g ∈ (noticing function notice high).group c, ((noticing function notice high).ch g).record.entries = []) ∧
      (noticing function notice high).report.Sound ∧ (noticing function notice high).report.fill + 1 ≤ 32 ∧
      (noticing function notice high).report.enables = 0x10 := by
  have room : oneFree.Sound ∧ oneFree.fill + 1 ≤ 32 := by unfold Report.Sound; decide
  have empty : ∀ c, ∀ g ∈ (at0 (chan .running)).group c, ((at0 (chan .running)).ch g).record.entries = [] := by decide
  exact ⟨rfl, fun h => by (cases high <;> cases h), rfl, rfl, rfl, empty, room.1, room.2, rfl⟩

theorem witness_StoReleaseFreesChannel :
    ∃ s i high c, State.resetHeld s = false ∧ (s.input i).high ≠ high ∧ high = (s.input i).activeLow ∧
      (s.input i).function = .sto 1 ∧ (∀ j, j ≠ i → (s.input j).active = true → (s.input j).stoFor c = false) ∧
      s.isCoupled c = false ∧ (s.ch c).state = .faulted ∧ (s.ch c).record.active = some (.own .sto) ∧
      (s.ch c).record.pending = [] :=
  ⟨input0 { chan .faulted with record := holding (.own .sto) } { Input.reset with function := .sto 1, high := true },
    0, false, 0, by decide⟩

/-! ## Witnesses: the link and the dispatcher -/

/-- A payload of zeros is cut into entries of seven bytes. -/
theorem zeros_divide (n k : Nat) (h : DividesInto n (List.replicate k 0)) : k = 7 * n := by
  obtain ⟨es, rfl, flat, each⟩ := h
  have seven : ∀ e ∈ es, e.length = 7 := by
    intro e he
    obtain ⟨b, rest, rfl, hl⟩ := each e he
    have zero : b ∈ es.flatten := List.mem_flatten.mpr ⟨b :: rest, he, by simp⟩
    rw [flat] at zero
    rw [hl, List.eq_of_mem_replicate zero]
    rfl
  have total : es.flatten.length = k := by simp [flat]
  rw [List.length_flatten, List.map_eq_replicate_iff.mpr seven] at total
  simp at total
  omega

/-- Distances 0, 1, 32767 and 32768, a full queue, and a feed-forward; one byte too many, 25 entries, and no entry. -/
theorem witness_SetpointsArrive :
    (∃ (s : State) (h : Byte) (c : ChannelId), s.resetHeld = false ∧ h.toNat % 16 = c.val ∧ h.getLsbD 7 = true ∧
      s.isFollower c = false ∧ (s.ch c).state.takes = true ∧ (s.ch c).tb.period = 0 ∧
      ((s.ch c).queue.records.filter (fun e => decide ((e.applyAt - 0#16).toNat < 17))).length = 16 ∧
      ((s.ch c).queue.records.filter (fun e => decide ((e.applyAt - 0#16).toNat < 16))).length = 15) ∧
    (∃ s : State, s.resetHeld = false ∧ s.isFollower 1 = true) ∧
    (State.reset.resetHeld = false ∧ State.reset.isFollower 0 = false ∧ (State.reset.ch 0).state.takes = false) ∧
    (10 ≤ (10#8).toNat % 16 ∧ (10#8).getLsbD 7 = false) ∧
    (∀ k, k = 0 ∨ k = 8 ∨ k = 175 → ∀ n, 0 < n → n ≤ 24 → ¬ DividesInto n (List.replicate k 0)) ∧
    DividesInto 1 [0, 1, 0, 0, 0, 0, 0] ∧ DividesInto 1 [0x83, 1, 0, 0, 0, 0, 0, 0, 0] :=
  ⟨⟨at0 { chan .running with queue := { SetpointQueue.reset with
        records := (List.range 16).map (fun k => record (BitVec.ofNat 16 (k + 1)) 0 0) } }, 0x80, 0, by decide⟩,
    ⟨coupled (chan .running) (chan .running), by decide⟩, by decide, by decide,
    fun k hk n _ _ hd => by have := zeros_divide n k hd; omega,
    ⟨[[0, 1, 0, 0, 0, 0, 0]], rfl, rfl, fun e he => by
      rw [List.mem_singleton.mp he]; exact ⟨0, [1, 0, 0, 0, 0, 0], rfl, rfl⟩⟩,
    ⟨[[0x83, 1, 0, 0, 0, 0, 0, 0, 0]], rfl, rfl, fun e he => by
      rw [List.mem_singleton.mp he]; exact ⟨0x83, [1, 0, 0, 0, 0, 0, 0, 0], rfl, rfl⟩⟩⟩

theorem witness_RequestEntersQueue :
    (State.reset.resetHeld = false ∧ (0x20#8) ≠ 0x01 ∧ State.reset.commands.length < 4) ∧
    (∃ s : State, s.resetHeld = false ∧ s.commands.length = 4 ∧ s.report.fill = 31) ∧
    (∃ s : State, s.resetHeld = false ∧ s.commands.length = 4 ∧ s.report.fill = 32) :=
  ⟨by decide,
    ⟨{ State.reset with
      commands := List.replicate 4 ⟨0x10, 1, []⟩
      report := { Report.reset with sending := some (onLine false), waiting := List.replicate 30 anEvent } },
      by decide⟩,
    ⟨{ State.reset with
      commands := List.replicate 4 ⟨0x10, 1, []⟩
      report := { Report.reset with sending := some (onLine false), waiting := List.replicate 31 anEvent } },
      by decide⟩⟩

/-- Length bytes 248 and 249, a CRC that matches and one that does not, a body's last byte, and each other receiver
state. -/
theorem witness_LinkErrorsAndBytesMoveReceiver :
    (State.reset.resetHeld = false ∧ 248 < (249#8).toNat ∧ (248#8).toNat ≤ 248) ∧
    (∃ (s : State) (b : Byte), s.resetHeld = false ∧ s.link.receiver = .checkHigh 0x20 1 [0] 0x34 ∧
      s.link.crc = b ++ (0x34#8)) ∧
    (∃ (s : State) (b : Byte), s.resetHeld = false ∧ s.link.receiver = .checkHigh 0x20 1 [0] 0x34 ∧
      s.link.crc ≠ b ++ (0x34#8)) ∧
    (∀ k, ∃ s : State, s.resetHeld = false ∧ s.link.receiver = k) ∧
    (∃ s : State, s.resetHeld = false ∧ s.link.receiver ≠ .hunt ∧ s.link.lastByteAt = some 40 ∧ s.ByteEndsAt 59 ∧
      s.resetAt + 19 ≤ 59) :=
  ⟨by decide,
    ⟨{ State.reset with link := { Link.reset with receiver := .checkHigh 0x20 1 [0] 0x34, crc := 0x1234 } }, 0x12,
      by decide⟩,
    ⟨{ State.reset with link := { Link.reset with receiver := .checkHigh 0x20 1 [0] 0x34, crc := 0x1234 } }, 0x13,
      by decide⟩,
    fun k => ⟨{ State.reset with link := { Link.reset with receiver := k } }, rfl, rfl⟩,
    ⟨{ State.reset with link := { Link.reset with receiver := .sync2, lastByteAt := some 40 } }, rfl, by decide, rfl,
      .inr ⟨40, rfl, by decide⟩, by decide⟩⟩

/-- The first byte after a reset at moment 0, at any moment: 18 and 19 among them, where the two clauses meet. -/
theorem witness_LinkErrorsAndBytesMoveReceiver_firstByte (n : Nat) :
    ∃ s : State, s.resetHeld = false ∧ s.ByteEndsAt n ∧ s.resetAt = 0 ∧ s.link.receiver = .hunt :=
  ⟨{ State.reset with now := n }, rfl, .inl ⟨rfl, rfl⟩, rfl, rfl⟩

/-- The shortest and the longest payload, the first byte begun just after the reset. -/
theorem witness_FrameIsReceived :
    ∃ s : State, s.resetHeld = false ∧ s.link.receiver = .hunt ∧ s.ByteEndsAt 19 ∧ s.resetAt + 19 ≤ 19 ∧
      (List.replicate 248 (0 : Byte)).length ≤ 248 ∧ ([] : List Byte).length ≤ 248 :=
  ⟨{ State.reset with now := 19 }, rfl, rfl, .inl ⟨rfl, rfl⟩, by decide, by decide, by decide⟩

theorem witness_TransmitEndAdvances :
    (State.reset.resetHeld = false ∧ State.reset.report.sending = none) ∧
    ∃ s w, State.resetHeld s = false ∧ s.report.sending = some w ∧ w.telegram.endsReset = false ∧
      s.report.waiting = [aTelemetry, anEvent] :=
  ⟨by decide,
    { State.reset with report := { Report.reset with sending := some (onLine false), waiting := [aTelemetry, anEvent] } },
    onLine false, rfl, rfl, rfl, rfl⟩

theorem witness_ServedRequestIsAnswered :
    (∃ i r s, requestOf i = some r ∧ State.CanServe s r ∧ s.report.Sound) ∧
    (∃ i r s, requestOf i = some r ∧ ¬ State.CanServe s r) :=
  ⟨⟨.enable 1 [0], ⟨0x20, 1, [0]⟩, State.reset, rfl, ⟨rfl, by decide⟩, by unfold Report.Sound; decide⟩,
    ⟨.enable 1 [0], ⟨0x20, 1, [0]⟩, { State.reset with resetAwaited := true }, rfl, by unfold State.CanServe; decide⟩⟩

/-- An unknown kind, a payload one byte too long, channel 10 and pair 5. -/
theorem witness_RefusedRequestChangesNothing :
    (requestOf (.badKind 0x99 1 [0]) = some ⟨0x99, 1, [0]⟩ ∧ State.reset.CanServe ⟨0x99, 1, [0]⟩ ∧
      (0x99#8) ∉ requestKinds) ∧
    (requestOf (.enable 1 [0, 0]) = some ⟨0x20, 1, [0, 0]⟩ ∧ State.reset.CanServe ⟨0x20, 1, [0, 0]⟩ ∧
      fixedLength 0x20 = some 1) ∧
    (requestOf (.clearFaults 1 [10]) = some ⟨0x26, 1, [10]⟩ ∧ State.reset.CanServe ⟨0x26, 1, [10]⟩ ∧
      fixedLength 0x26 = some 1 ∧ namedRange 0x26 = some 10) ∧
    (requestOf (.uncouple 1 [5]) = some ⟨0x25, 1, [5]⟩ ∧ State.reset.CanServe ⟨0x25, 1, [5]⟩ ∧
      fixedLength 0x25 = some 1 ∧ namedRange 0x25 = some 5) := by
  unfold State.CanServe
  decide

/-- A block that ends one byte after the payload, channel 10 with no block, and no record, a ninth and six bytes of
one. -/
theorem witness_RefusedRequestChangesNothing_tiled :
    ¬ Tiles (([0, 0, 9, 1] : List Byte).drop 2) ∧ Tiles (([10, 0] : List Byte).drop 2) ∧
      requestOf (.loadProfile 1 [0, 0, 9, 1]) = some ⟨0x11, 1, [0, 0, 9, 1]⟩ ∧
      State.reset.CanServe ⟨0x11, 1, [0, 0, 9, 1]⟩ ∧ State.reset.CanServe ⟨0x11, 1, [0]⟩ ∧
      State.reset.CanServe ⟨0x11, 1, [10, 0]⟩ ∧ 9 < (([10, 0] : List Byte).getD 0 0).toNat ∧
      requestOf (.configureInputs 1 []) = some ⟨0x14, 1, []⟩ ∧ State.reset.CanServe ⟨0x14, 1, []⟩ ∧
      (List.replicate 63 (0 : Byte)).length = 56 + 7 ∧ (List.replicate 6 (0 : Byte)).length % 7 ≠ 0 := by
  refine ⟨?_, ⟨[], by simp, rfl⟩, rfl, ?_, ?_, ?_, by decide, rfl, ?_, by decide, by decide⟩
  · rintro ⟨blocks, -, h⟩
    cases blocks with
    | nil => cases h
    | cons b rest =>
      have hl := congrArg List.length h
      have hb : BitVec.ofNat 8 b.2.length = (1 : Byte) := by
        simp only [List.flatMap_cons, List.cons_append, List.drop_succ_cons, List.drop_zero, List.cons.injEq] at h
        exact h.2.1.symm
      simp only [List.flatMap_cons, List.length_append, List.length_cons, List.drop_succ_cons, List.drop_zero,
        List.length_nil] at hl
      have h0 : b.2.length = 0 := by omega
      rw [h0] at hb
      exact absurd hb (by decide)
  all_goals unfold State.CanServe; decide

theorem witness_QueriesOnlyAnswer :
    State.reset.CanServe ⟨0x10, 1, []⟩ ∧ State.reset.CanServe ⟨0x32, 1, []⟩ ∧ State.reset.CanServe ⟨0x33, 1, []⟩ ∧
      State.reset.CanServe ⟨0x34, 1, []⟩ ∧ (9#8).toNat = (9 : ChannelId).val ∧ State.reset.CanServe ⟨0x30, 1, [9]⟩ ∧
      State.reset.CanServe ⟨0x31, 1, [9]⟩ ∧ State.reset.CanServe ⟨0x12, 1, [9, 0]⟩ ∧
      State.reset.CanServe ⟨0x12, 1, [9, 10]⟩ ∧ State.reset.CanServe ⟨0x12, 1, [9, 9]⟩ := by
  unfold State.CanServe
  decide

/-! ## Witnesses: the requests -/

/-- A complete first profile, and the same without its last block. -/
theorem witness_LoadProfileConfigures :
    IsProfile ([0, 0] ++ fourBlocks) 0 0 fourTiles ∧ KindIs 0 .axis ∧ TilesFit fourTiles ∧
      (blocksLayout fourTiles).InOrder ∧ (blocksLayout fourTiles).HasFour ∧
      TilesFit (fourTiles.take 3) ∧ ¬ (blocksLayout (fourTiles.take 3)).HasFour ∧
      State.reset.CanServe ⟨0x11, 1, [0, 0] ++ fourBlocks⟩ ∧ (State.reset.ch 0).state = .unconfigured ∧
      State.reset.isCoupled 0 = false ∧ (State.reset.ch 0).sample.driverAsserted = false ∧
      State.reset.bus.ovOpen = false ∧
      ∀ i, (State.reset.input i).active = true → (State.reset.input i).stoFor 0 = false := by
  unfold State.CanServe
  decide

/-- THERMAL with Aclear at Awarn, and a WINDOWS block whose one window has its base above its limit. -/
def disordered : List (Byte × List Byte) :=
  [(6, le32 9 ++ le32 9 ++ le32 30), (7, [1, 1] ++ le32 5 ++ le32 4 ++ le16 0)]

/-- A kind byte of 2; a block of no known type, a type given twice, a body one byte short, five windows, and a count of
two windows before one; a block out of order alone, for a running channel. -/
theorem witness_LoadProfileConfigures_badValues :
    (IsProfile [0, 2] 0 2 [] ∧ 1 < (2 : Byte).toNat ∧ State.reset.CanServe ⟨0x11, 1, [0, 2]⟩ ∧
      (State.reset.ch 0).state ∈ [.unconfigured, .disabled, .running]) ∧
    (∀ tiles ∈ ([[(10, [])], [(6, le32 20 ++ le32 10 ++ le32 30), (6, le32 20 ++ le32 10 ++ le32 30)],
        [(8, [5, 0])], [(7, 5 :: List.replicate 55 0)], [(7, 2 :: List.replicate 11 0)]] :
        List (List (Byte × List Byte))),
      IsProfile ([0, 0] ++ tileBytes tiles) 0 0 tiles ∧ ¬ TilesFit tiles) ∧
    (∀ t ∈ disordered, IsProfile ([0, 0] ++ tileBytes [t]) 0 0 [t] ∧ TilesFit [t] ∧ ¬ (blocksLayout [t]).InOrder ∧
      (blocksLayout [t]).timebase = none ∧ (blocksLayout [t]).encoder = none ∧ (blocksLayout [t]).sensing = none) ∧
    (∃ s : State, s.CanServe ⟨0x11, 1, [0, 0]⟩ ∧ (s.ch 0).state = .running ∧ (s.ch 0).kind = .axis) := by
  unfold State.CanServe
  exact ⟨by decide, by decide, by decide, ⟨at0 (chan .running), by decide⟩⟩

/-- A first profile with such a block, on an axis and on a spindle; the same with a block missing; and spindles that are
DISABLED and RUNNING. -/
theorem witness_LoadProfileConfigures_outOfOrder :
    (∀ kind ∈ ([0, 1] : List Byte), ∀ t ∈ disordered,
      IsProfile ([0, kind] ++ tileBytes (fourTiles ++ [t])) 0 kind (fourTiles ++ [t])) ∧
    KindIs 0 .axis ∧ KindIs 1 .spindle ∧
    (∀ t ∈ disordered, TilesFit (fourTiles ++ [t]) ∧ ¬ (blocksLayout (fourTiles ++ [t])).InOrder ∧
      (blocksLayout (fourTiles ++ [t])).HasFour) ∧
    (∀ t ∈ disordered, TilesFit (fourTiles.drop 1 ++ [t]) ∧ ¬ (blocksLayout (fourTiles.drop 1 ++ [t])).HasFour) ∧
    (∀ payload, State.reset.CanServe ⟨0x11, 1, payload⟩) ∧ (State.reset.ch 0).state = .unconfigured ∧
    State.reset.isCoupled 0 = false ∧
    (∀ st ∈ [ChState.disabled, .running], ∃ s : State, s.CanServe ⟨0x11, 1, [0, 1]⟩ ∧ (s.ch 0).state = st ∧
      (s.ch 0).kind = .spindle ∧ s.isCoupled 0 = false) := by
  unfold State.CanServe
  refine ⟨by decide, by decide, by decide, by decide, by decide, fun payload => ⟨rfl, rfl⟩, by decide, by decide,
    fun st hst => ⟨at0 { chan st with kind := .spindle }, ?_⟩⟩
  revert st
  decide

/-- A spindle named as an axis, and a coupled channel, for the telegram of the four blocks. -/
theorem witness_LoadProfileWaitsForValley_refused :
    (IsProfile ([0, 0] ++ fourBlocks) 0 0 fourTiles ∧ KindIs 0 .axis ∧ TilesFit fourTiles ∧
      (blocksLayout fourTiles).timebase ≠ none) ∧
    (∃ s : State, s.CanServe ⟨0x11, 1, [0, 0] ++ fourBlocks⟩ ∧ (s.ch 0).state = .disabled ∧ (s.ch 0).kind = .spindle) ∧
    (∃ s : State, s.CanServe ⟨0x11, 1, [0, 0] ++ fourBlocks⟩ ∧ (s.ch 0).state = .running ∧ (s.ch 0).kind = .axis ∧
      s.isCoupled 0 = true) := by
  unfold State.CanServe
  exact ⟨by decide, ⟨at0 { chan .disabled with kind := .spindle }, by decide⟩,
    ⟨coupled (chan .running) (chan .running), by decide⟩⟩

/-- The four blocks, and a THERMAL block alone. -/
theorem witness_LoadProfileWaitsForValley :
    (IsProfile ([0, 0] ++ fourBlocks) 0 0 fourTiles ∧ TilesFit fourTiles ∧ (blocksLayout fourTiles).InOrder ∧
      (blocksLayout fourTiles).timebase ≠ none) ∧
    (∀ tiles ∈ [[((6 : Byte), le32 20 ++ le32 10 ++ le32 30)]], ∀ b ∈ [blocksLayout tiles],
      IsProfile ([0, 0] ++ tileBytes tiles) 0 0 tiles ∧ TilesFit tiles ∧ b.InOrder ∧ b.timebase = none ∧
        b.encoder = none ∧ b.sensing = none ∧ b.thermal ≠ none) ∧
    (∀ st, ∃ s : State, (s.ch 0).state = st ∧ (s.ch 0).kind = .axis ∧ s.isCoupled 0 = false ∧
      (s.ch 0).record.entries = [] ∧ s.CanServe ⟨0x11, 1, [0, 0] ++ fourBlocks⟩) :=
  ⟨by decide, by decide, fun st => ⟨at0 (chan st), rfl, rfl, rfl, rfl, rfl, rfl⟩⟩

/-- The fields of a TIMEBASE and a LIMITS block, and values that are taken as others (R8, R54). -/
theorem test_block_fields :
    timebaseOf [3, 0xF4, 0x01, 7, 80, 255, 12, 0xFF, 0xFF] =
      some { prescale := 4, n := 500, mode := .full, dt := 80, cmin := 250, tdc := 12, db := 4095 } ∧
    limitsOf (le16 40000 ++ le16 2 ++ le16 3 ++ le16 0 ++ [0, 16, 255] ++ le16 2001) =
      some
        { ilim := 32767, idLim := 2, icont := 3, rampSlope := 1, holdLimit := 1, lateLimit := 15, brakeSpeed := 255,
          brakeTime := 2000 } := by decide

/-- The payload of a CONFIGURE_BUS with these levels and support channel. -/
def busPayload (uOff uOn uOv : Nat) (support : Byte) : List Byte :=
  le16 20000 ++ [5, 5] ++ le16 uOv ++ le16 uOn ++ le16 uOff ++ le16 200 ++ [support] ++ le16 18000 ++ le16 4000 ++
    le16 12000

/-- A good profile with a support channel that is a spindle, one with support channel 10, one with U_off at U_on. -/
theorem witness_ConfigureBusTakesProfile :
    (∀ support ∈ ([8, 10, 0xFF] : List Byte), (busPayload 22500 23000 25000 support).length = 19 ∧
        byteAt (busPayload 22500 23000 25000 support) 12 = support.toNat) ∧
      busProfileLayout (busPayload 22500 23000 25000 8) = { profile with support := some 8 } ∧
      busProfileLayout (busPayload 22500 23000 25000 0xFF) = profile ∧
      busProfileLayout (busPayload 23000 23000 25000 0xFF) = { profile with uOff := 23000 } ∧
      (∀ payload, State.reset.CanServe ⟨0x13, 1, payload⟩) ∧ State.reset.bus.ride = .normal ∧
      (∃ s : State, (s.ch 8).kind = .spindle ∧ s.bus.ride = .normal ∧ s.bus.mainsAsserted = true ∧
        s.CanServe ⟨0x13, 1, busPayload 22500 23000 25000 8⟩) ∧
      (∃ s : State, s.bus.ride ≠ .normal ∧ s.CanServe ⟨0x13, 1, busPayload 22500 23000 25000 0xFF⟩) :=
  ⟨by decide, by decide, by decide, by decide, fun _ => ⟨rfl, rfl⟩, by decide,
    ⟨{ State.reset.setCh 8 { Channel.reset with kind := .spindle } with
        bus := { Bus.reset with mainsAsserted := true } }, by unfold State.CanServe; decide⟩,
    ⟨{ State.reset with bus := { Bus.reset with ride := .expired } }, by unfold State.CanServe; decide⟩⟩

/-- A record that makes input 0 an STO input of channel 0 while its line is high; the same input taken back; input 8;
one input twice; channel 10. -/
theorem witness_ConfigureInputsTakesRecords :
    (∀ rs ∈ [inputsLayout [0, 0, 3, 1, 0, 4, 0]],
      (∀ x ∈ rs, x.input ≤ 7 ∧ x.function ≤ 3 ∧ x.polarity ≤ 1 ∧ x.notice ≤ 3) ∧ (rs.map RawInput.input).Nodup ∧
      (∀ x ∈ rs, ((x.function = 1 ∨ x.function = 2) → x.assignment ≤ 9) ∧ (x.function = 3 → x.assignment < 1024)) ∧
      ∃ (s : State) (after : Vector Input 8), s.CanServe ⟨0x14, 1, [0, 0, 3, 1, 0, 4, 0]⟩ ∧
        (∀ i : InputId, (∀ x ∈ rs, x.input = i.val → after[i] = x.configures (s.input i)) ∧
          ((∀ x ∈ rs, x.input ≠ i.val) → after[i] = s.input i)) ∧
        stoHolds s.inputs 0 = false ∧ stoHolds after 0 = true ∧
        (∀ c, (s.ch c).state ≠ .unconfigured → stoHolds s.inputs c = true → stoHolds after c = true) ∧
        s.RunsClear 0 0 ∧ s.report.Sound) ∧
    (∀ rs ∈ [inputsLayout [0, 0, 0, 0, 0, 4, 0]], ∃ (s : State) (after : Vector Input 8),
      s.CanServe ⟨0x14, 1, [0, 0, 0, 0, 0, 4, 0]⟩ ∧
        (∀ i : InputId, (∀ x ∈ rs, x.input = i.val → after[i] = x.configures (s.input i)) ∧
          ((∀ x ∈ rs, x.input ≠ i.val) → after[i] = s.input i)) ∧
        ∃ c, (s.ch c).state ≠ .unconfigured ∧ stoHolds s.inputs c = true ∧ stoHolds after c = false) ∧
    (∃ x ∈ inputsLayout [8, 0, 0, 0, 0, 4, 0], 7 < x.input) ∧
    ¬ ((inputsLayout [1, 0, 0, 0, 0, 4, 0, 1, 0, 0, 0, 0, 4, 0]).map RawInput.input).Nodup ∧
    (∃ x ∈ inputsLayout [0, 0, 1, 10, 0, 4, 0], x.function = 1 ∧ 9 < x.assignment) := by
  unfold State.CanServe
  refine ⟨fun rs h => ?_, fun rs h => ?_, by decide, by decide, by decide⟩
  · cases List.mem_singleton.mp h
    exact ⟨by decide, by decide, by decide, input0 (chan .running) { Input.reset with high := true },
      (input0 (chan .running) { Input.reset with high := true, function := .sto 1 }).inputs, by decide, by decide,
      by decide, by decide, by decide, running_clear _ rfl rfl rfl 0 (by decide), by unfold Report.Sound; decide⟩
  · cases List.mem_singleton.mp h
    exact ⟨input0 (chan .running) { Input.reset with high := true, function := .sto 1 },
      (input0 (chan .running) { Input.reset with high := true }).inputs, by decide, by decide, 0, by decide⟩

/-- The reply to CONFIGURE_INPUTS carries the active states: input 0 becomes active by its polarity. -/
theorem test_configureInputs_reply :
    ((run State.reset [.configureInputs 1 [0, 1, 0, 0, 0, 4, 0]]).report.telegrams.map Telegram.payload) = [[0, 1]] := by
  decide

/-- Divisors 200 and 3, a T_link of 0, thresholds 2, 5 and 6, a queue that serves a follower. -/
theorem witness_SettingsTakeEffect :
    (∃ payload : List Byte, State.reset.CanServe ⟨0x15, 1, payload⟩ ∧ payload.length = 11 ∧
      ∀ k, k < 10 → (payload.getD k 0).toNat ∈ [0, 1, 2, 4, 5, 8, 10, 16, 20, 50, 100, 200]) ∧
    (∃ payload : List Byte, State.reset.CanServe ⟨0x15, 1, payload⟩ ∧ payload.length = 11 ∧
      ∃ k, k < 10 ∧ (payload.getD k 0).toNat ∉ [0, 1, 2, 4, 5, 8, 10, 16, 20, 50, 100, 200]) ∧
    State.reset.CanServe ⟨0x16, 1, [0]⟩ ∧
    (State.reset.CanServe ⟨0x27, 1, [0, 2]⟩ ∧ State.reset.CanServe ⟨0x27, 1, [0, 5]⟩ ∧
      State.reset.CanServe ⟨0x27, 1, [0, 6]⟩ ∧ State.reset.CanServe ⟨0x27, 1, [0, 1]⟩) ∧
    (State.reset.CanServe ⟨0x28, 1, [0]⟩ ∧ (State.reset.ch 0).state = .unconfigured) ∧
    (∃ s : State, s.CanServe ⟨0x28, 1, [1]⟩ ∧ (s.ch 1).state ≠ .unconfigured ∧ s.leader 1 = 0) := by
  unfold State.CanServe
  exact ⟨⟨List.replicate 11 200, by decide⟩, ⟨List.replicate 11 3, by decide, by decide, 9, by decide⟩, by decide,
    by decide, by decide, ⟨coupled (chan .running) (chan .running), by decide⟩⟩

/-- A channel in any state, alone and on the bus. -/
theorem serves_any (st : ChState) (r : Request) :
    (onBus (at0 (chan st))).CanServe r ∧ ((onBus (at0 (chan st))).ch 0).state = st ∧
      (onBus (at0 (chan st))).isCoupled 0 = false ∧ (onBus (at0 (chan st))).bus.profile ≠ none ∧
      (onBus (at0 (chan st))).bus.ride = .normal :=
  ⟨⟨rfl, rfl⟩, rfl, rfl, (fun h => by cases h), rfl⟩

theorem witness_EnableCharges :
    (∀ st : ChState, ∃ s : State, s.CanServe ⟨0x20, 1, [0]⟩ ∧ (s.ch 0).state = st ∧ s.isCoupled 0 = false ∧
      s.bus.profile ≠ none ∧ s.bus.ride = .normal) ∧
    (∃ s : State, s.CanServe ⟨0x20, 1, [0]⟩ ∧ s.isCoupled 0 = false ∧ (s.ch 0).state = .calibrating ∧
      (s.ch 0).op.inProgress = some .calibrate ∧ (s.ch 0).tb.gateMode = .off ∧ s.bus.profile ≠ none ∧
      s.bus.ride = .normal ∧ s.bus.uvSet = true ∧ 2 < (s.ch 0).faults.mask ∧ (s.ch 0).record.entries = []) ∧
    (∃ s : State, s.CanServe ⟨0x20, 1, [0]⟩ ∧ (s.ch 0).state = .disabled ∧ s.bus.profile ≠ none ∧
      s.bus.ride ≠ .normal) :=
  ⟨fun st => ⟨onBus (at0 (chan st)), serves_any st _⟩,
    ⟨onBus { at0 (timed .calibrating Timers.stopped (some .calibrate)) with bus := { Bus.reset with uvSet := true } },
      by unfold State.CanServe; decide⟩,
    ⟨onBus { at0 (chan .disabled) with bus := { Bus.reset with ride := .rideThrough } },
      by unfold State.CanServe; decide⟩⟩

/-- A pair on the bus in any two states, in CALIBRATING with its operation in progress. -/
def pairOn (x y : ChState) (ride : RideState) : State :=
  { onBus (coupled (timed x Timers.stopped (if x = .calibrating then some .calibrate else none))
      (timed y Timers.stopped (if y = .calibrating then some .calibrate else none))) with
    bus := { Bus.reset with profile := some profile, ride := ride } }

/-- Any two states, any mode and any ride-through state. -/
theorem witness_PairStartsAndStopsTogether (x y : ChState) (ride : RideState) (r : Request) :
    (pairOn x y ride).isCoupled 1 = true ∧ (pairOn x y ride).CanServe r ∧ (pairOn x y ride).bus.profile ≠ none ∧
      (pairOn x y ride).bus.ride = ride ∧ (pairOn x y ride).bus.uvSet = false ∧
      ((pairOn x y ride).ch 0).state = x ∧ ((pairOn x y ride).ch 1).state = y ∧
      (x = .calibrating → ((pairOn x y ride).ch 0).op.inProgress = some .calibrate) ∧
      (coupled (chan x) (chan y)).bus.profile = none :=
  ⟨rfl, ⟨rfl, rfl⟩, (fun h => by cases h), rfl, rfl, rfl, rfl, (fun h => by subst h; rfl), rfl⟩

/-- Modes 0, 1 and 2 in every state. -/
theorem witness_DisableStops (st : ChState) (m : Byte) :
    ∃ s : State, s.CanServe ⟨0x21, 1, [0, m]⟩ ∧ (s.ch 0).state = st ∧ s.isCoupled 0 = false ∧
      (s.ch 0).gatesSound = true := by
  refine ⟨at0 (chan st), ⟨rfl, rfl⟩, rfl, rfl, ?_⟩
  cases st <;> first | decide | (rename_i k; cases k <;> decide)

theorem witness_CalibrateAndCancel :
    (∃ s : State, s.CanServe ⟨0x22, 1, [0]⟩ ∧ (s.ch 0).state = .disabled ∧ (s.ch 0).tb.gateMode = .off ∧
      (s.ch 0).cal.condition = .suspended ∧
      (s.ch 0).idle.tStale * 8000000 = s.now - (s.ch 0).cal.suspendedAt ∧ s.CanServe ⟨0x23, 1, [0]⟩) ∧
    (State.reset.CanServe ⟨0x22, 1, [0]⟩ ∧ (State.reset.ch 0).state ≠ .disabled ∧
      State.reset.CanServe ⟨0x23, 1, [0]⟩ ∧ (State.reset.ch 0).cal.condition = .empty) ∧
    (∃ s : State, s.CanServe ⟨0x23, 1, [0]⟩ ∧ (s.ch 0).cal.condition = .running ∧ (s.ch 0).state = .calibrating ∧
      (s.ch 0).op.inProgress = some .calibrate) := by
  unfold State.CanServe
  exact ⟨⟨{ at0 { chan .disabled with cal := { Calibration.reset with condition := .suspended } } with
      now := 400000000 }, by decide⟩, by decide,
    ⟨at0 { timed .calibrating Timers.stopped (some .calibrate) with
      cal := { Calibration.reset with condition := .running } }, by decide⟩⟩

/-- The payload of a COUPLE of pair 0 after its first byte. -/
def couplePayload : List Byte := le16 300 ++ le16 1000 ++ le32 2000 ++ le32 0

theorem witness_CoupleJoinsFollower :
    couplePayload.length = 12 ∧
    (∃ s : State, s.CanServe ⟨0x24, 1, 0 :: couplePayload⟩ ∧ (s.pair 0).coupled = true) ∧
    (∃ s : State, s.CanServe ⟨0x24, 1, 0 :: couplePayload⟩ ∧ (s.pair 0).coupled = false ∧ (s.ch 0).state ≠ .disabled) ∧
    (∃ s : State, s.CanServe ⟨0x24, 1, 0 :: couplePayload⟩ ∧ (s.pair 0).coupled = false ∧
      (s.ch (masterOf 0)).state = .disabled ∧ (s.ch (followerOf 0)).state = .disabled ∧
      (s.ch (masterOf 0)).kind = .axis ∧ (s.ch (followerOf 0)).kind = .axis ∧
      (s.ch (masterOf 0)).timebase = (s.ch (followerOf 0)).timebase ∧
      (s.ch (masterOf 0)).waiting.timebase = none ∧ (s.ch (followerOf 0)).waiting.timebase = none) := by
  unfold State.CanServe
  exact ⟨by decide, ⟨coupled (chan .disabled) (chan .disabled), by decide⟩, ⟨State.reset, by decide⟩,
    ⟨(at0 (chan .disabled)).setCh 1 (chan .disabled), by decide⟩⟩

/-- A pair that is FAULTED for a HELD source of the follower and its AUTO shadow on the master. -/
def faultedPair : State :=
  coupled { chan .faulted with record := holding (.partner .sto .gatesOff .auto) }
    { chan .faulted with record := holding (.own .encoder) }

theorem witness_UncoupleReleasesPair :
    (State.reset.CanServe ⟨0x25, 1, [0]⟩ ∧ (State.reset.pair 0).coupled = false) ∧
    (∃ s : State, s.CanServe ⟨0x25, 1, [0]⟩ ∧ (s.pair 0).coupled = true ∧
      ∃ g ∈ [masterOf 0, followerOf 0], (s.ch g).state.isStopped = false) ∧
    (faultedPair.CanServe ⟨0x25, 1, [0]⟩ ∧ (faultedPair.pair 0).coupled = true ∧
      (∀ g ∈ [masterOf 0, followerOf 0], (faultedPair.ch g).state.isStopped = true) ∧ faultedPair.RecordsSound ∧
      ∀ g ∈ [masterOf 0, followerOf 0], ∀ e ∈ (faultedPair.ch g).record.entries,
        e.isPartner = true ∨ e.endMode (faultedPair.ch g).faults = .held) := by
  unfold State.CanServe State.RecordsSound FaultRecord.Sound
  refine ⟨by decide, ⟨coupled (chan .running) (chan .disabled), by decide⟩, by decide, by decide, by decide, ?_,
    by decide⟩
  decide

theorem witness_ClearFaultsEmptiesRecord :
    (State.reset.CanServe ⟨0x26, 1, [0]⟩ ∧ State.reset.isCoupled 0 = false ∧ (State.reset.ch 0).state = .unconfigured) ∧
    (∃ s : State, s.CanServe ⟨0x26, 1, [0]⟩ ∧ s.isCoupled 0 = false ∧ (s.ch 0).state = .faulted ∧
      (s.ch 0).record.entries = [.own .encoder, .own .i2t] ∧
      (∀ e ∈ (s.ch 0).record.entries,
        e.isPartner = false ∧ e.endMode (s.ch 0).faults = .held ∧ s.conditionHolds 0 e = false) ∧
      (s.ch 0).record.entries.Nodup ∧ s.RoomFor 4) ∧
    (∃ s : State, s.CanServe ⟨0x26, 1, [0]⟩ ∧ s.isCoupled 0 = false ∧ (s.ch 0).state = .faulted ∧
      (s.ch 0).record.active = some (.own .driver) ∧ (s.ch 0).record.pending = [] ∧
      s.conditionHolds 0 (.own .driver) = true) := by
  unfold State.CanServe State.RoomFor Report.Sound
  exact ⟨by decide,
    ⟨at0 { chan .faulted with record := { holding (.own .encoder) with pending := [.own .i2t] } }, by decide⟩,
    ⟨at0 { chan .faulted with
      record := holding (.own .driver), sample := { Sample.reset with driverAsserted := true } }, by decide⟩⟩

/-- ENCODER, whose condition has ended, before I2T, whose condition holds: I2T is promoted. -/
theorem witness_ClearFaultsEmptiesRecord_promotes :
    ∃ s : State, s.CanServe ⟨0x26, 1, [0]⟩ ∧ s.isCoupled 0 = false ∧ (s.ch 0).state = .faulted ∧
      (s.ch 0).record.Sound ∧ s.RoomFor 3 ∧ (s.ch 0).record.entries = [.own .encoder, .own .i2t] ∧
      (∀ e ∈ (s.ch 0).record.entries, e.isPartner = false ∧ e.endMode (s.ch 0).faults = .held) ∧
      (s.ch 0).record.entries.filter (fun e => s.conditionHolds 0 e) = [.own .i2t] := by
  unfold State.CanServe FaultRecord.Sound State.RoomFor Report.Sound
  exact ⟨at0 { chan .faulted with
    record := { holding (.own .encoder) with pending := [.own .i2t] }
    ref := { RefPath.reset with tripped := true } }, by decide⟩

/-- A pair FAULTED for DRIVER on the master, its line back or still asserted. -/
def driverPair (asserted : Bool) : State :=
  coupled
    { chan .faulted with
      record := holding (.own .driver), sample := { Sample.reset with driverAsserted := asserted } }
    { chan .faulted with record := holding (.partner .driver .gatesOff .held) }

/-- Warnings alone, on a channel of every state that takes the request and holds no entry, and on a running pair. -/
theorem witness_ClearFaultsEmptiesRecord_warnings :
    (∀ st ∈ [ChState.disabled, .calibrating, .charging, .running, .parked, .stopping .rampHost, .stopping .rampFault,
        .stopping .brake],
      ∀ s ∈ [at0 { chan st with record := { FaultRecord.reset with seen := 0x800 } }, coupled (chan st) (chan st)],
        s.CanServe ⟨0x26, 1, [0]⟩ ∧ (s.ch 0).state ≠ .unconfigured ∧
        ∀ g ∈ s.group 0, (s.ch g).state ≠ .faulted ∧ (s.ch g).record.entries = []) := by
  unfold State.CanServe
  decide

/-- A channel that stops for a fault with these entries, the ride-through EXPIRED and the thermal trip flag set. -/
def stoppingFor (st : Stop) (entries : List Entry) : State :=
  { at0 { chan (.stopping st) with
      record := { FaultRecord.reset with active := entries.head?, pending := entries.tail }
      op := { OpRecord.reset with inProgress := some (if st = .brake then .brake else .faultStop) }
      faults := { FaultsValues.reset with dcUnderEnd := .held, i2tEnd := .held }
      ref := { RefPath.reset with tripped := true } } with
    bus := { Bus.reset with ride := .expired } }

/-- A ramp and a brake for a fault. LINK_LOSS alone, whose condition has ended; DC_UNDER, ended, before I2T, which holds
and ramps; and before POWER_LOSS, which holds and turns the gates off; I2T, which holds, before LINK_LOSS. -/
theorem witness_ClearFaultsEmptiesRecord_stopping (st : Stop) (entries stays : List Entry)
    (hst : st = .rampFault ∨ st = .brake)
    (h : (entries = [.own .linkLoss] ∧ stays = []) ∨ (entries = [.own .dcUnder, .own .i2t] ∧ stays = [.own .i2t]) ∨
      (entries = [.own .dcUnder, .own .powerLoss] ∧ stays = [.own .powerLoss]) ∨
      (entries = [.own .i2t, .own .linkLoss] ∧ stays = [.own .i2t])) :
    ∃ s : State, s = stoppingFor st entries ∧ s.CanServe ⟨0x26, 1, [0]⟩ ∧ s.isCoupled 0 = false ∧
      (s.ch 0).record.Sound ∧ s.RoomFor 4 ∧ (s.ch 0).state = .stopping st ∧ (s.ch 0).record.entries = entries ∧
      (∀ e ∈ (s.ch 0).record.entries, e.isPartner = false ∧ e.endMode (s.ch 0).faults = .held) ∧
      (s.ch 0).record.entries.filter (fun e => s.conditionHolds 0 e) = stays := by
  unfold State.CanServe FaultRecord.Sound State.RoomFor Report.Sound
  refine ⟨stoppingFor st entries, rfl, ?_⟩
  rcases hst with rfl | rfl <;> rcases h with ⟨rfl, rfl⟩ | ⟨rfl, rfl⟩ | ⟨rfl, rfl⟩ | ⟨rfl, rfl⟩ <;> decide

/-- A pair that brakes on the master and is FAULTED on the follower, for ENCODER, which has ended, and its PARTNER. -/
theorem witness_ClearFaultsEmptiesRecord_pairStops :
    ∃ s : State, s.CanServe ⟨0x26, 1, [0]⟩ ∧ s.isCoupled 0 = true ∧ (s.ch 0).state = .stopping .brake ∧
      (s.ch 1).state = .faulted ∧ (∀ g ∈ s.group 0, (s.ch g).record.Sound ∧ (s.ch g).record.entries ≠ []) ∧
      ∀ g ∈ s.group 0, ∀ e ∈ (s.ch g).record.entries, e.isPartner = false →
        e.endMode (s.ch g).faults = .held ∧ s.conditionHolds g e = false := by
  unfold State.CanServe FaultRecord.Sound
  exact ⟨coupled { chan (.stopping .brake) with record := holding (.own .encoder) }
    { chan .faulted with record := holding (.partner .encoder .gatesOff .held) }, by decide⟩

theorem witness_ClearFaultsEmptiesRecord_pair (asserted : Bool) :
    (driverPair asserted).CanServe ⟨0x26, 1, [0]⟩ ∧ (driverPair asserted).isCoupled 0 = true ∧
      (∀ g ∈ (driverPair asserted).group 0, ((driverPair asserted).ch g).state = .faulted) ∧
      (∀ g ∈ (driverPair asserted).group 0, ((driverPair asserted).ch g).record.Sound) ∧
      (∀ g ∈ (driverPair asserted).group 0, ∀ e ∈ ((driverPair asserted).ch g).record.entries, e.isPartner = false →
        e.endMode ((driverPair asserted).ch g).faults = .held ∧
          (driverPair asserted).conditionHolds g e = asserted) ∧
      ((driverPair asserted).ch 0).record = holding (.own .driver) ∧
      ((driverPair asserted).ch (mateOf 0)).record = holding (.partner .driver .gatesOff .held) := by
  unfold State.CanServe FaultRecord.Sound
  cases asserted <;> decide

theorem witness_ChannelResetClears :
    (∃ s : State, s.CanServe ⟨0x38, 1, [1]⟩ ∧ s.isCoupled 1 = true) ∧
    (∃ s : State, s.CanServe ⟨0x38, 1, [0]⟩ ∧ s.isCoupled 0 = false ∧ (s.ch 0).gatesSound = true ∧
      (s.ch 0).state = .running ∧ s.RoomFor 2 ∧
      s.bus.profile = some { profile with support := some 0 }) := by
  unfold State.CanServe State.RoomFor Report.Sound
  exact ⟨⟨coupled (chan .running) (chan .running), by decide⟩,
    ⟨{ at0 (chan .running) with bus := { Bus.reset with profile := some { profile with support := some 0 } } },
      by decide⟩⟩

/-! ## Witnesses: what every command keeps -/

theorem witness_OnlyLoadProfileConfigures :
    (∃ i s t, exec i s = .next t ∧ (s.ch 0).state = .unconfigured ∧ s.isCoupled 0 = false ∧
      (s.ch 0).cal.condition = .empty ∧ (t.ch 0).state ≠ .unconfigured) ∧
    (∃ i s t, exec i s = .next t ∧ (s.ch 0).state ≠ .unconfigured ∧ (t.ch 0).state = .unconfigured) :=
  ⟨⟨.loadProfile 1 ([0, 0] ++ fourBlocks), State.reset, run State.reset [.loadProfile 1 ([0, 0] ++ fourBlocks)], rfl,
      by decide, by decide, by decide, by decide⟩,
    ⟨.channelReset 1 [0], at0 (chan .running), run (at0 (chan .running)) [.channelReset 1 [0]], rfl, by decide,
      by decide⟩⟩

/-- With no pair coupled, the pairs are sound. -/
theorem alone_sound (s : State) (h : ∀ p, (s.pair p).coupled = false) : s.PairsSound :=
  fun p hp => absurd hp (by rw [h p]; decide)

theorem witness_OnlyEnableOrWakeCharges :
    (∃ i s t, exec i s = .next t ∧ s.PairsSound ∧ (s.ch 0).state ≠ .charging ∧ (t.ch 0).state = .charging) ∧
    (∃ i s t, exec i s = .next t ∧ s.PairsSound ∧ (s.ch 0).state ≠ .running ∧ (t.ch 0).state = .running) :=
  ⟨⟨.enable 1 [0], onBus (at0 (chan .disabled)), run (onBus (at0 (chan .disabled))) [.enable 1 [0]], rfl,
      alone_sound _ (by decide), by decide, by decide⟩,
    ⟨.chargeTimerExpiry 0, at0 (timed .charging { Timers.stopped with charge := some 9 } (some .charge)),
      run (at0 (timed .charging { Timers.stopped with charge := some 9 } (some .charge))) [.chargeTimerExpiry 0], rfl,
      alone_sound _ (by decide), by decide, by decide⟩⟩

theorem witness_StepKeepsGatesSound : ∃ s t, s.GatesSound ∧ step s = .next t :=
  ⟨at0 (chan .running), (at0 (chan .running)).idle, by unfold State.GatesSound; decide, rfl⟩

theorem witness_StepKeepsQueuesSound : ∃ s t, s.QueuesSound ∧ step s = .next t :=
  ⟨at0 (chan .running), (at0 (chan .running)).idle, by unfold State.QueuesSound SetpointQueue.Ordered; decide, rfl⟩

theorem witness_StepKeepsFaultRecordsSound : ∃ s t, s.RecordsSound ∧ s.PairsSound ∧ step s = .next t :=
  ⟨at0 (chan .running), (at0 (chan .running)).idle, by unfold State.RecordsSound FaultRecord.Sound; decide,
    alone_sound _ (by decide), rfl⟩

theorem witness_StepKeepsSharedBlocksSound :
    ∃ s t, step s = .next t ∧ s.LinkSound ∧ s.bus.Sound ∧ s.ThermalSound :=
  ⟨State.reset, State.reset.idle, rfl, by unfold State.LinkSound Report.Sound; decide,
    ⟨by intro p h; simp [State.reset, Bus.reset] at h, by decide⟩,
    fun c => ⟨by revert c; decide, by revert c; decide, by revert c; decide⟩⟩

end Sys2Proof.Tests
end

section
/-! PROOFS. The stages of the current loop computation (R21 to R37): the sine table, the arithmetic the stages are made
of, one lemma per stage, and the two statements assembled from them. -/

namespace Sys2Proof.Machine

/-! ## The sine table (R21) -/

/-- The first quarter of the table repeats backwards in the second. -/
theorem sine_reflect (j : Nat) (h : j < 256) : sine (512 - j) = sine j := by
  have hback : 512 - (512 - j) = j := by omega
  simp only [sine, Nat.le_of_lt h, ↓reduceIte, show ¬ 512 - j ≤ 256 by omega, show 512 - j ≤ 512 by omega, hback]

/-- The second half turn of the table is the first with the sign turned. -/
theorem sine_half_turn (k : Nat) (h : k < 512) : sine (k + 512) = -sine k := by
  have hquarter : k + 512 - 512 = k := by omega
  have hback : 1024 - (k + 512) = 512 - k := Nat.add_sub_add_right 512 512 k
  rcases Nat.eq_zero_or_pos k with rfl | hpos
  · decide
  · by_cases hk : k ≤ 256
    · simp only [sine, hk, ↓reduceIte, hquarter, show ¬ k + 512 ≤ 256 by omega, show ¬ k + 512 ≤ 512 by omega,
        show k + 512 ≤ 768 by omega]
    · simp only [sine, hk, ↓reduceIte, hback, show ¬ k + 512 ≤ 256 by omega, show ¬ k + 512 ≤ 512 by omega,
        show ¬ k + 512 ≤ 768 by omega, show k ≤ 512 by omega]

/-- The sine of an angle in the second quarter is that of its reflection at the quarter turn. -/
theorem IsSine.reflect {j : Nat} {v : Int} (h : IsSine j v) (hpos : 0 < j) (hj : j ≤ 256) : IsSine (512 - j) v := by
  have hdist : min ((512 - j) % 512) (512 - (512 - j) % 512) = min (j % 512) (512 - j % 512) := by omega
  simp only [IsSine, hdist, show 512 - j < 512 by omega, show j < 512 by omega, ↓reduceIte] at h ⊢
  exact h

/-- Half a turn on, the sine changes its sign. -/
theorem IsSine.half_turn {k : Nat} {v : Int} (h : IsSine k v) (hk : k < 512) : IsSine (k + 512) (-v) := by
  simp only [IsSine, Nat.add_mod_right, show ¬ k + 512 < 512 by omega, hk, ↓reduceIte, Int.neg_neg] at h ⊢
  exact h

/-- The tabulated entries below the quarter turn, each compared with the series. -/
theorem isSine_sine_rows : ∀ i < 16, ∀ j < 16, IsSine (16 * i + j) (sine (16 * i + j)) := by
  unfold IsSine
  decide

theorem isSine_sine_quarter_turn : IsSine 256 (sine 256) := by
  unfold IsSine
  decide

/-- The tabulated entries, those of the first quarter. -/
theorem isSine_sine_quarter (k : Nat) (h : k ≤ 256) : IsSine k (sine k) := by
  rcases Nat.eq_or_lt_of_le h with rfl | hlt
  · exact isSine_sine_quarter_turn
  · have hrow := isSine_sine_rows (k / 16) (by omega) (k % 16) (by omega)
    rwa [Nat.div_add_mod] at hrow

/-- Every entry of the table, by the two symmetries from the first quarter. -/
theorem isSine_sine (k : Nat) (h : k < 1024) : IsSine k (sine k) := by
  have hhalf : ∀ j < 512, IsSine j (sine j) := by
    intro j hj
    by_cases hq : j ≤ 256
    · exact isSine_sine_quarter j hq
    · have hrefl := (isSine_sine_quarter (512 - j) (by omega)).reflect (by omega) (by omega)
      rwa [← sine_reflect (512 - j) (by omega), show 512 - (512 - j) = j by omega] at hrefl
  by_cases hk : k < 512
  · exact hhalf k hk
  · have hturn := (hhalf (k - 512) (by omega)).half_turn (by omega)
    rwa [← sine_half_turn (k - 512) (by omega), show k - 512 + 512 = k by omega] at hturn

/-! ## The integer functions (spec 00, 5.6) -/

/-- A symmetric clamp is the minimum and the maximum with the two bounds. -/
theorem clampSym_eq (bound : Nat) (x : Int) : clampSym bound x = max (-(bound : Int)) (min bound x) :=
  clampTo_eq _ _ _ (by omega)

/-- The half-up quotient has its two bounds. -/
theorem halfUp_spec (k : Nat) (x : Int) : HalfUp k x (halfUp k x) := by
  have hpos : (0 : Int) < 2 ^ k := Int.pow_pos (by decide)
  have habove := Int.lt_mul_ediv_self_add (x := x + 2 ^ (k - 1)) hpos
  unfold HalfUp halfUp
  exact ⟨Int.mul_ediv_self_le (Int.ne_of_gt hpos), by rwa [Int.mul_add, Int.mul_one]⟩

/-- A half-up quotient clamped to 16 bits, as stages 2 to 6 form it. -/
theorem halfUpClamped_spec (k : Nat) (x : Int) : HalfUpClamped k x (clampSym 32767 (halfUp k x)) :=
  ⟨halfUp k x, halfUp_spec k x, clampSym_eq 32767 _⟩

/-- A root known but for its last `k` bits is completed to the integer root. -/
theorem isqrtFrom_bounds (k r x : Nat) (hlow : r ^ 2 ≤ x) (hhigh : x < (r + 2 ^ k) ^ 2) :
    isqrtFrom k r x ^ 2 ≤ x ∧ x < (isqrtFrom k r x + 1) ^ 2 := by
  induction k generalizing r with
  | zero => exact ⟨hlow, hhigh⟩
  | succ k ih =>
    unfold isqrtFrom
    split
    · rename_i hdigit
      refine ih _ (by rwa [Nat.pow_two]) ?_
      rwa [Nat.add_assoc, ← Nat.two_pow_succ]
    · rename_i hdigit
      exact ih _ hlow (by rw [Nat.pow_two]; omega)

/-- The integer root is the largest number whose square is not above the argument. -/
theorem isqrt_bounds (x : Nat) : isqrt x ^ 2 ≤ x ∧ x < (isqrt x + 1) ^ 2 := by
  refine isqrtFrom_bounds _ 0 x (by omega) ?_
  calc x < 2 ^ (x.log2 + 1) := Nat.lt_log2_self
    _ ≤ 2 ^ ((x.log2 / 2 + 1) * 2) := Nat.pow_le_pow_right (by omega) (by omega)
    _ = (0 + 2 ^ (x.log2 / 2 + 1)) ^ 2 := by rw [Nat.pow_mul, Nat.zero_add]

/-! ## Stages 1 to 7 (R22 to R28) -/

theorem measure_s (r : EngineRequest) : (measure r).s = sine (r.theta / 64) := by
  rw [measure]

theorem measure_c (r : EngineRequest) : (measure r).c = sine ((r.theta / 64 + 256) % 1024) := by
  rw [measure]

/-- The measured current of the beta axis (R23), which both currents of the rotor frame are formed of. -/
def EngineRequest.beta (r : EngineRequest) : Int := clampSym 32767 (halfUp 15 ((r.ia + 2 * r.ib) * 18919))

theorem measure_id (r : EngineRequest) :
    (measure r).id = clampSym 32767 (halfUp 15 (r.ia * (measure r).c + r.beta * (measure r).s)) := by
  simp only [measure, EngineRequest.beta]

theorem measure_iq (r : EngineRequest) :
    (measure r).iq = clampSym 32767 (halfUp 15 (-r.ia * (measure r).s + r.beta * (measure r).c)) := by
  simp only [measure, EngineRequest.beta]

theorem loopError_eq (reference measured : Int) :
    loopError reference measured = max (-32767) (min 32767 (reference - measured)) :=
  clampSym_eq 32767 _

theorem candidate_eq (ki : Nat) (integrator e : Int) :
    candidate ki integrator e = max (-2147418112) (min 2147418112 (integrator + ki * e)) :=
  clampSym_eq 2147418112 _

/-- The integral output is the half-up quotient of the candidate by 2^16. -/
theorem integralOutput_spec (ki : Nat) (integrator e : Int) :
    HalfUp 16 (max (-2147418112) (min 2147418112 (integrator + ki * e)))
      (integralOutput (candidate ki integrator e)) := by
  rw [← candidate_eq]
  exact halfUp_spec 16 _

/-- The engine forms its errors and unlimited voltages by stages 2 to 7. -/
theorem formsVoltages_compute (r : EngineRequest) (intD intQ : Int) :
    r.FormsVoltages intD intQ (measure r).s (measure r).c (loopError r.idRef (measure r).id)
      (loopError r.iqRef (measure r).iq) (unlimitedD r (measure r) intD) (unlimitedQ r (measure r) intQ) :=
  ⟨r.beta, (measure r).id, (measure r).iq,
    proportional r.loop.kpD (loopError r.idRef (measure r).id),
    proportional r.loop.kpQ (loopError r.iqRef (measure r).iq),
    integralOutput (candidate r.loop.kiD intD (loopError r.idRef (measure r).id)),
    integralOutput (candidate r.loop.kiQ intQ (loopError r.iqRef (measure r).iq)),
    halfUpClamped_spec 15 _, measure_id r ▸ halfUpClamped_spec 15 _,
    measure_iq r ▸ halfUpClamped_spec 15 _,
    loopError_eq _ _, loopError_eq _ _, halfUpClamped_spec 8 _, halfUpClamped_spec 8 _,
    integralOutput_spec _ _ _, integralOutput_spec _ _ _, rfl, rfl⟩

/-! ## Stages 8 and 9 (R29 to R31) -/

theorem clampFlag_iff (bound : Nat) (u : Int) : clampFlag bound u = true ↔ bound < u.natAbs := decide_eq_true_iff

/-- The bound of the q axis is the integer root of what the d axis leaves of the circle. -/
theorem vqMax_bounds (vmax : Nat) (vd : Int) (h : vd.natAbs ≤ vmax) :
    (vqMax vmax vd : Int) ^ 2 ≤ (vmax : Int) ^ 2 - vd ^ 2 ∧
      (vmax : Int) ^ 2 - vd ^ 2 < ((vqMax vmax vd : Int) + 1) ^ 2 := by
  have hrest : (vmax : Int) ^ 2 - vd ^ 2 = (vmax ^ 2 - vd.natAbs ^ 2 : Nat) := by
    rw [Int.natCast_sub (Nat.pow_le_pow_left h 2), Int.natCast_pow, Int.natCast_pow, Int.natAbs_pow_two]
  rw [hrest]
  exact_mod_cast isqrt_bounds (vmax ^ 2 - vd.natAbs ^ 2)

/-- A voltage clamped to ±`bound` has a square of at most `bound`². -/
theorem sq_clampSym_le (bound : Nat) (u : Int) : clampSym bound u ^ 2 ≤ (bound : Int) ^ 2 := by
  rw [← Int.natAbs_pow_two]
  exact_mod_cast Nat.pow_le_pow_left (clampSym_natAbs bound u) 2

/-- The anti-windup keeps the integrator or takes the candidate as R31 has it. -/
theorem integratorRule_antiWindup (bound ki : Nat) (u e integrator : Int) :
    IntegratorRule bound u e integrator (ki * e) (antiWindup bound u e integrator (candidate ki integrator e)) := by
  simp only [IntegratorRule, antiWindup, clampFlag, Bool.and_eq_true, Bool.or_eq_true, decide_eq_true_eq]
  exact ⟨fun hkept => if_pos hkept, fun htaken => by rw [if_neg htaken, candidate_eq]⟩

/-- The rule of the anti-windup keeps an integrator within its limit. -/
theorem IntegratorRule.natAbs_le {bound : Nat} {u e old increment new : Int}
    (h : IntegratorRule bound u e old increment new) (hold : old.natAbs ≤ 2147418112) : new.natAbs ≤ 2147418112 := by
  obtain ⟨hkept, htaken⟩ := h
  by_cases hwind : bound < u.natAbs ∧ ((0 < e ∧ (bound : Int) < u) ∨ (e < 0 ∧ u < -(bound : Int)))
  · rwa [hkept hwind]
  · have := htaken hwind
    omega

/-- Settles O23: the sine table by its symmetries, the stages 2 to 7 by their lemma, and the circle from the integer
root of what the d axis leaves. -/
theorem voltagesAndIntegratorsLimited : Obligations.VoltagesAndIntegratorsLimited := by
  refine ⟨isSine_sine, ?_⟩
  rintro r intD intQ s c _ _ hs hc rfl rfl
  rw [← measure_s] at hs
  rw [← measure_c] at hc
  subst hs hc
  let ud := unlimitedD r (measure r) intD
  let uq := unlimitedQ r (measure r) intQ
  let vmax := vMax r.udc r.loop.mlim
  let vqmax := vqMax vmax (clampSym vmax ud)
  have hroot := vqMax_bounds vmax (clampSym vmax ud) (clampSym_natAbs vmax ud)
  have hcircle : clampSym vmax ud ^ 2 + clampSym vqmax uq ^ 2 ≤ (vmax : Int) ^ 2 := by
    have hvq := sq_clampSym_le vqmax uq
    exact Int.add_le_of_le_sub_left (Int.le_trans hvq hroot.1)
  have hruleD := integratorRule_antiWindup vmax r.loop.kiD ud (loopError r.idRef (measure r).id) intD
  have hruleQ := integratorRule_antiWindup vqmax r.loop.kiQ uq (loopError r.iqRef (measure r).iq) intQ
  exact ⟨_, _, ud, uq, vqmax, formsVoltages_compute r intD intQ, clampSym_eq _ _, clampFlag_iff _ _, hroot.1, hroot.2,
    clampSym_eq _ _, clampFlag_iff _ _, hcircle, hruleD, hruleQ, hruleD.natAbs_le, hruleQ.natAbs_le⟩

/-! ## Stages 10 to 12 (R32 to R37) -/

/-- The engine forms its phase voltages by stages 10 and 11. -/
theorem centredVoltages_phaseVoltages (m : Measured) (vd vq : Int) :
    CentredVoltages m.s m.c vd vq (phaseVoltages m vd vq).1 (phaseVoltages m vd vq).2.1 (phaseVoltages m vd vq).2.2 := by
  refine ⟨halfUp 15 (vd * m.c - vq * m.s), halfUp 15 (vd * m.s + vq * m.c), _, _, halfUp_spec 15 _,
    halfUp_spec 15 _, halfUp_spec 15 _, ?_, ?_, rfl, rfl, rfl⟩ <;> omega

/-- The raw duty is floor(N/2) and the quotient that the two bounds single out. -/
theorem rawDuty_eq (n u : Nat) (v q : Int) (hu : 0 < u) (hlow : 2 * u * q ≤ 2 * v * n + u)
    (hhigh : 2 * v * n + u < 2 * u * (q + 1)) : rawDuty n u v = (n / 2 : Nat) + q := by
  have hnext : 2 * (u : Int) * (q + 1) = q * (2 * u) + 2 * u := by rw [Int.mul_comm, Int.add_mul, Int.one_mul]
  have hquot : (2 * v * n + u) / (2 * u : Int) = q :=
    (Int.ediv_eq_iff_of_pos (by omega)).mpr ⟨by rwa [Int.mul_comm q], hnext ▸ hhigh⟩
  rw [rawDuty, hquot]

/-- The three cases of R36 are those of the compensation. -/
theorem compensation_eq (tdc db : Nat) (current change : Int)
    (hpos : (db : Int) ≤ current → 0 < current → change = tdc)
    (hneg : current ≤ -(db : Int) → current < 0 → change = -(tdc : Int))
    (hband : ¬ ((db : Int) ≤ current ∧ 0 < current) → ¬ (current ≤ -(db : Int) ∧ current < 0) → change = 0) :
    compensation tdc db current = change := by
  unfold compensation
  split
  · next h => exact (hpos h.1 h.2).symm
  · next hnp =>
    split
    · next h => exact (hneg h.1 h.2).symm
    · next hnn => exact (hband hnp hnn).symm

/-- A compare value is the compensated duty, clamped to [Cmin, N - Cmin]. -/
theorem duty_eq (r : EngineRequest) (v current : Int) (h : 2 * r.cmin ≤ r.n) :
    (duty r v current : Int) = max (r.cmin : Int) (min ((r.n : Int) - r.cmin)
      (rawDuty r.n (udcEff r.udc) v + compensation r.tdc r.db current)) := by
  rw [duty, clampTo_eq _ _ _ (by omega), Int.toNat_of_nonneg (by omega)]

/-- Settles O24: each compare value is the duty of its centred voltage and its phase's current. -/
theorem dutyStaysInBounds : Obligations.DutyStaysInBounds := by
  intro r intD intQ s c res hcmin hres hs hc
  rw [← measure_s] at hs
  rw [← measure_c] at hc
  subst hs hc
  subst hres
  refine ⟨by omega, _, _, _, centredVoltages_phaseVoltages (measure r) _ _, ?_⟩
  intro x u voltage current q change hphase hu hlow hhigh hpos hneg hband
  have hx : x = duty r voltage current := by
    simp only [List.mem_cons, Prod.mk.injEq, List.not_mem_nil, or_false] at hphase
    obtain ⟨rfl, rfl, rfl⟩ | ⟨rfl, rfl, rfl⟩ | ⟨rfl, rfl, rfl⟩ := hphase <;> rfl
  have hduty : (x : Int) = max (r.cmin : Int) (min ((r.n : Int) - r.cmin) ((r.n / 2 : Nat) + q + change)) := by
    rw [hx, duty_eq r voltage current hcmin, show udcEff r.udc = u from hu.symm,
      rawDuty_eq r.n u voltage q (by omega) hlow hhigh, compensation_eq r.tdc r.db current change hpos hneg hband]
  exact ⟨hduty, by omega, by omega⟩

end Sys2Proof.Machine
end
